-- ==== Sys2Proof/Word.lean ====
section
/-! DEFINITION. The word types of the wire and the channel numbers. -/

namespace Sys2Proof

/-- One byte of a frame (R163). -/
abbrev Byte := BitVec 8

/-- A channel CH0 to CH5. -/
abbrev Ch := Fin 6

/-- The six channels in the order of their numbers. -/
def channels : List Ch := [0, 1, 2, 3, 4, 5]

end Sys2Proof
end

