-- ==== Sys2Proof/Syntax.lean ====
section
/-! DEFINITION. The commands and events the block takes: one constructor of Instr per row of spec/opcode_table.json. -/

namespace Sys2Proof

/-- The two command ports (R149). -/
inductive Port where
  | host
  | monitor
  deriving DecidableEq, Repr

/-- The two sync inputs of a channel (R63, R64). -/
inductive SyncInput where
  | lm
  | vm
  deriving DecidableEq, Repr

/-- The course of a read of a port: whether its slot was READY when it began (R153), and, where a full reset took effect during it,
how many bytes it had taken by then (R160). -/
inductive ReadCourse where
  | whole (ready : Bool)
  | cut (ready : Bool) (after : Nat)
  deriving DecidableEq, Repr

/-- A record handle as a frame carries it: slot number and generation (R6, R164). -/
structure Handle where
  slot : Byte
  gen : Byte
  deriving DecidableEq, Repr

/-- The parameters of CONFIGURE CHANNEL after the channel byte, as the frame carries them, in the order of R79 (R164). -/
structure RawSettings where
  mode : Byte
  classMask : Byte
  blockSize : Byte
  stabilityWindow : Byte
  stabilityTarget : Byte
  frameTarget : Byte
  marginTicks : Byte
  marginLines : Byte
  blockReleaseRun : Byte
  frameReleaseRun : Byte
  neighbourhood : BitVec 16
  lineLoss : Byte
  verticalLoss : Byte
  holdPolicy : Byte
  holdPresent : Byte
  holdRecord : Handle
  holdLimit : Byte
  deriving DecidableEq, Repr

/-- Bitmaps of the six channels, two bytes each (R171 to R173). -/
abbrev ChannelMaps := Vector (BitVec 16) 6

/-- A command that has passed the intake checks, with its parameters as the frame carried them (R164). Where R164 says that
parameters are ignored (LIST RECORDS START, OPEN EDIT NEW) the command holds none. -/
inductive Cmd where
  | readDevice
  | setupDevice (refclk : BitVec 24) (divider lease retire announce : Byte)
  | resetFull
  | resetOther (selector : Byte)
  | readRecord (h : Handle)
  | listStart
  | listAfter (selector : Byte) (linePeriod frameLines : BitVec 16) (scan : Byte)
  | findFormat (linePeriod frameLines : BitVec 16) (scan : Byte) (syncWidth : BitVec 16)
      (linePolarity verticalPolarity classMask : Byte)
  | openEdit (selector : Byte) (h : Handle)
  | openEditNew
  | setField (id field : Byte) (value : BitVec 16)
  | clearField (id field : Byte)
  | readEdit (id : Byte)
  | commitEdit (id : Byte)
  | dropEdit (id : Byte)
  | retireRecord (h : Handle)
  | configureChannel (channel : Byte) (settings : RawSettings)
  | startChannel (channel : Byte)
  | stopChannel (channel : Byte)
  | rearmChannel (channel : Byte)
  | forceBinding (channel : Byte) (h : Handle)
  | readChannel (channel : Byte)
  | readMeasurement (channel : Byte)
  | flushShortlist (channel : Byte)
  | readEvents
  | clearEvents (channelMaps : ChannelMaps) (device : Byte)
  | setEventMasks (channelMaps : ChannelMaps) (device pinDisable : Byte)
  deriving DecidableEq, Repr

/-- The rows of spec/opcode_table.json. A command of the command set names the port it comes by and the tag of its frame.
A channel's own event names the channel. -/
inductive Instr where
  /-- POWER_ON, with the level on the MA strap. -/
  | powerOn (ma : Bool)
  /-- NRESET_ASSERT. -/
  | nresetAssert
  /-- NRESET_RELEASE, with the level on the MA strap. -/
  | nresetRelease (ma : Bool)
  /-- COMMAND_FRAME_START: the first byte of a frame on a port. -/
  | commandFrameStart (p : Port)
  /-- COMMAND_FRAME_END: the end of the frame on a port, with all of its bytes. -/
  | commandFrameEnd (p : Port) (bytes : List Byte)
  /-- RESPONSE_READ_END: the end of a read of a port. `ready` says whether the slot was READY when the read began and
  `taken` is the number of bytes of the response frame the master took. -/
  | responseReadEnd (p : Port) (course : ReadCourse) (taken : Nat)
  /-- HOST_COMMAND_TRANSACTION: the type byte and the bytes that follow it on SDI. -/
  | hostCommandTransaction (type : Byte) (bytes : List Byte)
  /-- HOST_READ_RESPONSE: an SPI transaction of type 0xA5 with `count` bytes after the type byte. -/
  | hostReadResponse (count : Nat)
  /-- MONITOR_WRITE_TRANSFER: the address and the data bytes. -/
  | monitorWriteTransfer (address : BitVec 7) (bytes : List Byte)
  /-- MONITOR_READ_TRANSFER: the address and the number of bytes the master takes. -/
  | monitorReadTransfer (address : BitVec 7) (count : Nat)
  | readDevice (p : Port) (tag : Byte)
  | setupDevice (p : Port) (tag : Byte) (refclk : BitVec 24) (divider lease retire announce : Byte)
  | resetDeviceFull (p : Port) (tag : Byte)
  /-- RESET_DEVICE_CHANNELS, with its selector byte (1; any other value but 0 is answered RANGE, R159). -/
  | resetDeviceChannels (p : Port) (tag selector : Byte)
  | readRecord (p : Port) (tag : Byte) (h : Handle)
  | listRecordsStart (p : Port) (tag : Byte)
  /-- LIST_RECORDS_AFTER_KEY, with its selector byte (1; any other value but 0 is answered RANGE, R164). -/
  | listRecordsAfterKey (p : Port) (tag selector : Byte) (linePeriod frameLines : BitVec 16) (scan : Byte)
  | findFormat (p : Port) (tag : Byte) (linePeriod frameLines : BitVec 16) (scan : Byte) (syncWidth : BitVec 16)
      (linePolarity verticalPolarity classMask : Byte)
  /-- OPEN_EDIT, with its selector byte (1; any other value but 0 is answered RANGE, R164). -/
  | openEdit (p : Port) (tag selector : Byte) (h : Handle)
  | openEditNew (p : Port) (tag : Byte)
  | setField (p : Port) (tag id field : Byte) (value : BitVec 16)
  | clearField (p : Port) (tag id field : Byte)
  | readEdit (p : Port) (tag id : Byte)
  | commitEdit (p : Port) (tag id : Byte)
  | dropEdit (p : Port) (tag id : Byte)
  /-- LEASE_EXPIRY of one edit context. -/
  | leaseExpiry (id : Fin 4)
  | retireRecord (p : Port) (tag : Byte) (h : Handle)
  /-- RETIRE_TIMER_EXPIRY of the pending-retire entry that holds the handle. -/
  | retireTimerExpiry (h : Handle)
  | forceBinding (p : Port) (tag channel : Byte) (h : Handle)
  | configureChannel (p : Port) (tag channel : Byte) (settings : RawSettings)
  | startChannel (p : Port) (tag channel : Byte)
  | stopChannel (p : Port) (tag channel : Byte)
  | rearmChannel (p : Port) (tag channel : Byte)
  | readChannel (p : Port) (tag channel : Byte)
  | readMeasurement (p : Port) (tag channel : Byte)
  | flushShortlist (p : Port) (tag channel : Byte)
  | readEvents (p : Port) (tag : Byte)
  | clearEvents (p : Port) (tag : Byte) (channelMaps : ChannelMaps) (device : Byte)
  | setEventMasks (p : Port) (tag : Byte) (channelMaps : ChannelMaps) (device pinDisable : Byte)
  | matchRequest (c : Ch)
  | rematchRequest (c : Ch)
  | shortlistRebuild (c : Ch)
  | releaseRequest (c : Ch)
  /-- LM_CYCLE_COMPLETE: the high time and the length of the cycle, in REFCLK samples. -/
  | lmCycleComplete (c : Ch) (high cycle : Nat)
  /-- VM_CYCLE_COMPLETE: the high time and the length of the cycle, in REFCLK samples. -/
  | vmCycleComplete (c : Ch) (high cycle : Nat)
  | polarityChange (c : Ch) (input : SyncInput)
  /-- LINE_MARKER, with the ticks that fell since the last one and that no clock edge of the model has counted (entry 4). -/
  | lineMarker (c : Ch) (ticks : Nat)
  | longLinePeriod (c : Ch)
  | blockBoundary (c : Ch)
  | verticalMarker (c : Ch)
  | longVerticalInterval (c : Ch)
  | syncWidthComplete (c : Ch)
  | lineLossExpiry (c : Ch)
  | verticalLossExpiry (c : Ch)
  | holdLimitExpiry (c : Ch)
  | substituteFrameStart (c : Ch)
  | substituteLine (c : Ch)
  | announceFrameComplete
  | subLmPulseEnd (c : Ch)
  deriving DecidableEq, Repr

end Sys2Proof
end

