-- ==== Sys2Proof/Decode.lean ====
section
/-! DEFINITION. The decoder over the rows of spec/opcode_table.json that give bits. No row gives any. -/

namespace Sys2Proof

/-- The command that a word of the table's bits spells. No row of spec/opcode_table.json gives bits, so no word spells one.
(The byte frames of the two ports are decoded in Machine/Wire.lean.) -/
def decodeTableWord (_nbits _w : Nat) : Option Instr := none

end Sys2Proof
end

