-- ==== Sys2Proof/Config.lean ====
section
/-! DEFINITION. What the part fixes, and the one value the spec leaves free. -/

namespace Sys2Proof.Config

/-- The part code READ DEVICE reports (R157). -/
def partCode : Nat := 0x0696

/-- The part revision READ DEVICE reports (R157). -/
def partRevision : Nat := 1

/-- The number of record slots of the catalogue store (R2). -/
def slotCount : Nat := 96

/-- The most entries the pending-retire set holds (R117). -/
def retireCapacity : Nat := 8

/-- The monitor port's address with MA low and with MA high (R155). -/
def monitorAddress (ma : Bool) : BitVec 7 := if ma then 0x3B else 0x3A

/-- FREE VALUE (entry 8). Which channel the serving of a commit lets act on its notice first, as a function of the count of
such choices made so far. R141 lets either of two channels that hand on in the same moment be taken first. -/
opaque firstToAct : Nat → Ch

end Sys2Proof.Config
end

