-- ==== Sys2Proof/Machine/State.lean ====
section
/-! DEFINITION. The state of the part as plain data, the outcomes' reasons, and the state after reset. -/

namespace Sys2Proof.Machine

/-- Why the machine stops with a fault. The spec names no condition that stops the part (every refusal is a status code in
a response, R156), so there is none. -/
inductive Fault where
  deriving DecidableEq, Repr

/-- Why a command has no outcome. -/
inductive Refusal where
  /-- Raised by an arm of `exec` whose row has no meaning yet. Safe: the machine stops. No arm uses it. -/
  | notModelled (mnemonic : String)
  deriving DecidableEq, Repr

/-! ## Records and the catalogue (chapters 1 and 2) -/

/-- SCAN (R10). -/
inductive Scan where
  | progressive
  | interlaced
  deriving DecidableEq, Repr

/-- A polarity (R10, R63). -/
inductive Polarity where
  | positive
  | negative
  deriving DecidableEq, Repr

/-- The state of a record slot (R2). -/
inductive SlotState where
  | free
  | live
  | retiring
  deriving DecidableEq, Repr

/-- A committed record body (R10). -/
structure Body where
  linePeriod : Nat
  lineTol : Nat
  frameLines : Nat
  frameTol : Nat
  scan : Scan
  syncWidth : Option (Nat × Nat)
  linePolarity : Option Polarity
  verticalPolarity : Option Polarity
  verifyBlock : Option Nat
  priority : Nat
  cls : Nat
  protect : Bool
  tag : BitVec 16
  deriving DecidableEq, Repr

/-- A working body, in which each required field may also be unset (R23). -/
structure WorkBody where
  linePeriod : Option Nat
  lineTol : Nat
  frameLines : Option Nat
  frameTol : Nat
  scan : Scan
  syncWidth : Option (Nat × Nat)
  linePolarity : Option Polarity
  verticalPolarity : Option Polarity
  verifyBlock : Option Nat
  priority : Nat
  cls : Nat
  protect : Bool
  tag : BitVec 16
  deriving DecidableEq, Repr

/-- The thirteen fields in the order of R10. -/
inductive Field where
  | linePeriod
  | lineTol
  | frameLines
  | frameTol
  | scan
  | syncWidth
  | linePolarity
  | verticalPolarity
  | verifyBlock
  | priority
  | cls
  | protect
  | tag
  deriving DecidableEq, Repr

/-- The match key of a record (R15). -/
structure Key where
  linePeriod : Nat
  frameLines : Nat
  scan : Scan
  deriving DecidableEq, Repr

/-- One record slot: its state, its catalogue-kept fields and, while it is not FREE, its body (R2). The body of a FREE slot
is the blank one (entry 13). -/
structure Slot where
  state : SlotState
  gen : Byte
  rev : Byte
  count : Nat
  mark : Option (Fin 4)
  body : Body
  deriving DecidableEq, Repr

/-- The model's filler for a slot that holds no record: no command can observe it (R5, entry 13). -/
def Body.blank : Body :=
  { linePeriod := 0, lineTol := 0, frameLines := 0, frameTol := 0, scan := .progressive, syncWidth := none,
    linePolarity := none, verticalPolarity := none, verifyBlock := none, priority := 0, cls := 0, protect := false, tag := 0 }

/-- A slot after a full reset (R21). -/
def Slot.empty : Slot := { state := .free, gen := 0, rev := 0, count := 0, mark := none, body := Body.blank }

/-- A running timer: the whole units that remain, and the REFCLK periods of the present unit that have passed (R60). -/
structure Timer where
  units : Nat
  elapsed : Nat
  deriving DecidableEq, Repr

/-- An OPEN edit context; a target of none is NEW (R23). -/
structure EditContext where
  target : Option Handle
  body : WorkBody
  changed : BitVec 13
  lease : Timer
  deriving DecidableEq, Repr

/-- An entry of the pending-retire set (R117). -/
structure RetireEntry where
  handle : Handle
  timer : Timer
  deriving DecidableEq, Repr

/-! ## Channels (chapters 3 to 7) -/

/-- The measurement a request carries (R47). A channel's own measurement is complete when it is posted (R64, R86), so that a
scan or a polarity of none passes no test. -/
structure Measurement where
  linePeriod : Nat
  frameLines : Nat
  scan : Option Scan
  syncWidth : Nat
  linePolarity : Option Polarity
  verticalPolarity : Option Polarity
  deriving DecidableEq, Repr

/-- The hold option of a release request (R55). The handle of FIXED is the hold record setting, which may be none. -/
inductive HoldOption where
  | none
  | last
  | fixed (record : Option Handle)
  deriving DecidableEq, Repr

/-- A channel's request with what it carries (R40, R43). -/
inductive Request where
  | acquire (m : Measurement)
  | rematch (m : Measurement)
  | rebuild (linePeriod : Nat)
  | release (hold : HoldOption)
  deriving DecidableEq, Repr

/-- The channel mode (R79). -/
inductive Mode where
  | track
  | oneShot
  deriving DecidableEq, Repr

/-- The hold policy (R79). -/
inductive HoldPolicy where
  | none
  | last
  | fixed
  deriving DecidableEq, Repr

/-- A channel's configuration, in the order of R79. -/
structure Settings where
  mode : Mode
  classMask : Byte
  blockSize : Nat
  stabilityWindow : Nat
  stabilityTarget : Nat
  frameTarget : Nat
  marginTicks : Nat
  marginLines : Nat
  blockReleaseRun : Nat
  frameReleaseRun : Nat
  neighbourhood : Nat
  lineLoss : Nat
  verticalLoss : Nat
  holdPolicy : HoldPolicy
  holdRecord : Option Handle
  holdLimit : Nat
  deriving DecidableEq, Repr

/-- The default configuration (R79). -/
def Settings.default : Settings :=
  { mode := .track, classMask := 0xFF, blockSize := 32, stabilityWindow := 4, stabilityTarget := 64, frameTarget := 3,
    marginTicks := 8, marginLines := 2, blockReleaseRun := 4, frameReleaseRun := 2, neighbourhood := 256, lineLoss := 10,
    verticalLoss := 100, holdPolicy := .none, holdRecord := none, holdLimit := 0 }

/-- The acquisition states (R81). -/
inductive Acq where
  | off
  | seeking
  | measuring
  | unmatched
  | locked
  | drifting
  | frozen
  | forced
  deriving DecidableEq, Repr

/-- The origin of a binding (R109). -/
inductive Origin where
  | found
  | force
  | hold
  deriving DecidableEq, Repr

/-- A holding binding (R109). -/
structure Binding where
  handle : Handle
  revSeen : Byte
  origin : Origin
  body : Body
  deriving DecidableEq, Repr

/-- The cause of the release of a departing binding (R81). -/
inductive ReleaseCause where
  | inputLoss
  | polarityChange
  | oneShotNone
  | holdLimit
  | quiet
  deriving DecidableEq, Repr

/-- A departing binding (R82). -/
structure Departing where
  handle : Handle
  origin : Origin
  revSeen : Byte
  cause : ReleaseCause
  deriving DecidableEq, Repr

/-- A channel's binding: it has at most one, holding or departing (R82). -/
inductive ChannelBinding where
  | none
  | holding (b : Binding)
  | departing (d : Departing)
  deriving DecidableEq, Repr

/-- A shortlist entry (R57). -/
structure ShortEntry where
  handle : Handle
  rev : Byte
  deriving DecidableEq, Repr

/-- The measurement record (R75). -/
structure MeasureRecord where
  valid : Bool
  linePeriod : Nat
  frameLines : Nat
  scan : Option Scan
  syncWidth : Nat
  linePolarity : Option Polarity
  verticalPolarity : Option Polarity
  frameRun : Nat
  stabilityRun : Nat
  outBlockRun : Nat
  outFrameRun : Nat
  deriving DecidableEq, Repr

/-- The cleared measurement record (R75, R78). -/
def MeasureRecord.cleared : MeasureRecord :=
  { valid := false, linePeriod := 0, frameLines := 0, scan := none, syncWidth := 0, linePolarity := none,
    verticalPolarity := none, frameRun := 0, stabilityRun := 0, outBlockRun := 0, outFrameRun := 0 }

/-- Where block formation stands (R68, R70): not formed; beginning at the next line marker; beginning at the first line
marker after the next vertical marker; or a block of `size` with `count` periods that add up to `sum`. -/
inductive BlockPhase where
  | off
  | awaitLine
  | awaitVertical
  | running (size count sum : Nat)
  deriving DecidableEq, Repr

/-- What the front end holds beside the measurement record (chapter 4). -/
structure FrontEnd where
  /-- The detected polarity of LM, none while unknown (R63). -/
  lmPolarity : Option Polarity
  /-- The detected polarity of VM, none while unknown (R64). -/
  vmPolarity : Option Polarity
  /-- Consecutive opposite decided cycles of LM and of VM (R65). -/
  lmOpposite : Nat
  vmOpposite : Nat
  /-- The ticks counted in the line period in progress, none when none is in progress (R66). -/
  period : Option Nat
  /-- The previous line period (R67). -/
  prevPeriod : Option Nat
  block : BlockPhase
  /-- The average of a completed block whose block boundary is to be taken (R68, entry 5). -/
  blockDone : Option Nat
  /-- The block average the next one is compared with (R68, R85). -/
  prevAverage : Option Nat
  /-- Whether a block has completed since the channel entered MEASURING (R86). -/
  blockSeen : Bool
  /-- The line markers counted in the vertical interval in progress (R72). -/
  interval : Option Nat
  /-- The predecessor interval (R73). -/
  prevInterval : Option Nat
  /-- The sync width count in progress (R74). -/
  width : Option Nat
  deriving DecidableEq, Repr

/-- The front end cleared (R78). -/
def FrontEnd.cleared : FrontEnd :=
  { lmPolarity := none, vmPolarity := none, lmOpposite := 0, vmOpposite := 0, period := none, prevPeriod := none,
    block := .off, blockDone := none, prevAverage := none, blockSeen := false, interval := none, prevInterval := none,
    width := none }

/-- The frame setting of a RUNNING generator (R132). -/
structure FrameSetting where
  linePeriod : Nat
  frameLines : Nat
  scan : Scan
  width : Nat
  linePolarity : Polarity
  verticalPolarity : Polarity
  deriving DecidableEq, Repr

/-- What a RUNNING generator is doing: resting before a frame of new polarities (R134), standing at a substitute frame
start whose event is to be taken (entry 5), or generating a line. -/
inductive GeneratorPhase where
  | resting
  | frameDue
  | generating
  deriving DecidableEq, Repr

/-- A RUNNING substitute generator with its frame setting and position (R128). -/
structure Generator where
  setting : FrameSetting
  phase : GeneratorPhase
  /-- Whether the field is the second one of an interlaced frame. -/
  second : Bool
  line : Nat
  tick : Nat
  deriving DecidableEq, Repr

/-- A channel engine (R79, R81, R128). A generator of none is QUIET; a timer of none is stopped. -/
structure Channel where
  settings : Settings
  acq : Acq
  binding : ChannelBinding
  shortlist : List ShortEntry
  /-- The re-verify mark with its pending body and revision (R93). -/
  reverify : Option (Body × Byte)
  stale : Bool
  rematch : Bool
  request : Option Request
  lineLoss : Option Timer
  verticalLoss : Option Timer
  holdLimit : Option Timer
  record : MeasureRecord
  front : FrontEnd
  generator : Option Generator
  /-- The last-used polarities of SUB_LM and SUB_VM (R128). -/
  lastLm : Polarity
  lastVm : Polarity
  /-- The levels of the pins SUB_LM and SUB_VM, true for high (R133). -/
  subLm : Bool
  subVm : Bool
  deriving DecidableEq, Repr

/-- A channel after a full reset (R81, R108, R139). -/
def Channel.initial : Channel :=
  { settings := Settings.default, acq := .off, binding := .none, shortlist := [], reverify := none, stale := false,
    rematch := false, request := none, lineLoss := none, verticalLoss := none, holdLimit := none,
    record := MeasureRecord.cleared, front := FrontEnd.cleared, generator := none, lastLm := .positive, lastVm := .positive,
    subLm := false, subVm := false }

/-! ## Announcements (chapter 8) -/

/-- The qualifier of an announced state (R107). -/
inductive Qualifier where
  | none
  | locked
  | drifting
  | substitute
  | forced
  | frozen
  deriving DecidableEq, Repr

/-- An announced state (R141). -/
structure Announced where
  qualifier : Qualifier
  handle : Handle
  rev : Byte
  tag : BitVec 16
  linePeriod : Nat
  frameLines : Nat
  scan : Scan
  deriving DecidableEq, Repr

/-- The announced state NONE (R141). -/
def Announced.nothing : Announced :=
  { qualifier := .none, handle := ⟨0, 0⟩, rev := 0, tag := 0, linePeriod := 0, frameLines := 0, scan := .progressive }

/-- The serializer's state for one channel (R140). -/
structure AnnounceChannel where
  announced : Announced
  seq : BitVec 4
  entry : Option (Announced × BitVec 4)
  lastSent : Option (BitVec 4)
  deriving DecidableEq, Repr

/-- The serializer's state for one channel after a full reset (R140). -/
def AnnounceChannel.initial : AnnounceChannel := { announced := Announced.nothing, seq := 0, entry := none, lastSent := none }

/-- The link while SENDING: the channel, the frame's 80 bits, and the REFCLK periods of the frame that have passed (R144). -/
structure Sending where
  channel : Ch
  announced : Announced
  seq : BitVec 4
  frame : BitVec 80
  elapsed : Nat
  deriving DecidableEq, Repr

/-! ## Ports (chapter 9) -/

/-- The status codes (R156). -/
inductive Status where
  | done
  | pending
  | notReady
  | busy
  | frameError
  | unknownCommand
  | readOnly
  | badHandle
  | stale
  | state
  | protectedRecord
  | editOpen
  | noEdit
  | editFull
  | range
  | inconsistent
  | duplicate
  | catalogueFull
  | retireFull
  | channelState
  | noMatch
  | clockLocked
  | badChannel
  deriving DecidableEq, Repr

/-- A response in a response buffer (R149). -/
structure Response where
  status : Status
  tag : Byte
  data : List Byte
  deriving DecidableEq, Repr

/-- The command slot of a port (R149). -/
inductive CommandSlot where
  | empty
  | receiving
  | executing (tag : Byte) (cmd : Cmd)
  | ready (r : Response)
  deriving DecidableEq, Repr

/-- A port: its slot, whether a frame refused with BUSY is arriving (R151), what the slot held when the last full reset took
effect, for a read that the reset cut (R160), and the model's record of what the port last sent to its master: bytes, and
acknowledges of an I2C transfer (entry 22). -/
structure PortState where
  slot : CommandSlot
  refusing : Bool
  /-- The slot as the last full reset found it, kept until the port's next frame or the end of its next read (R160,
  entry 23). -/
  lost : CommandSlot
  sent : List Byte
  acks : List Bool
  deriving DecidableEq, Repr

/-- A port with nothing in it (R149). -/
def PortState.initial : PortState := { slot := .empty, refusing := false, lost := .empty, sent := [], acks := [] }

/-- A port at a full reset (R149, R160): its slot is EMPTY, and what a read in progress was returning is remembered. -/
def PortState.cut (x : PortState) : PortState := { PortState.initial with lost := x.slot }

/-! ## Event unit and time base (chapters 10 and 4) -/

/-- The event unit (R168). -/
structure EventUnit where
  flags : Vector (BitVec 9) 6
  device : BitVec 3
  enables : Vector (BitVec 9) 6
  deviceEnables : BitVec 3
  pinDisable : Bool
  deriving DecidableEq, Repr

/-- The event unit after a full reset (R168). -/
def EventUnit.initial : EventUnit :=
  { flags := Vector.replicate 6 0, device := 0, enables := Vector.replicate 6 0, deviceEnables := 0, pinDisable := false }

/-- The time base: its five settings (R59), and the REFCLK edges counted toward the next tick. -/
structure TimeBase where
  refclk : Nat
  divider : Nat
  lease : Nat
  retire : Nat
  announce : Bool
  phase : Nat
  deriving DecidableEq, Repr

/-- The time base after a full reset (R59). -/
def TimeBase.initial : TimeBase := { refclk := 48000, divider := 1, lease := 200, retire := 50, announce := true, phase := 0 }

/-! ## The whole state -/

/-- The state of the part. -/
structure State where
  slots : Vector Slot 96
  /-- The slot numbers of the match index, in index order (R17). -/
  index : List Nat
  /-- The edit contexts; none is FREE (R23). -/
  edits : Vector (Option EditContext) 4
  /-- The pending-retire set, oldest first (R117). -/
  retiring : List RetireEntry
  /-- The requester granted last: 0 host port, 1 monitor port, 2 to 7 CH0 to CH5 (R41). -/
  granted : Fin 8
  chans : Vector Channel 6
  announcer : Vector AnnounceChannel 6
  /-- The link; none is IDLE (R140). -/
  link : Option Sending
  /-- The REFCLK periods for which AN_FRM must still stay low after the last completion (R144, entry 19). -/
  linkRest : Nat
  lastSent : Ch
  host : PortState
  monitor : PortState
  /-- Whether a RESET DEVICE FULL waits (R160). -/
  resetWaiting : Bool
  events : EventUnit
  time : TimeBase
  /-- Whether nRESET is held low (R161). -/
  resetLow : Bool
  /-- The level on the MA strap (R155). -/
  maLevel : Bool
  /-- The monitor port's address (R155). -/
  monitorAddress : BitVec 7
  /-- The MODEL's own: the free choices made so far (entry 8). -/
  choices : Nat
  /-- The MODEL's own: the commands that wait, first in, first out (entry 1). -/
  pending : List Instr
  deriving DecidableEq, Repr

/-- The part right after a full reset that has ended, with nothing waiting (R160, R161). -/
def State.reset : State :=
  { slots := Vector.replicate 96 Slot.empty, index := [], edits := Vector.replicate 4 none, retiring := [], granted := 7,
    chans := Vector.replicate 6 Channel.initial, announcer := Vector.replicate 6 AnnounceChannel.initial, link := none,
    linkRest := 0, lastSent := 5, host := PortState.initial, monitor := PortState.initial, resetWaiting := false,
    events := EventUnit.initial, time := TimeBase.initial, resetLow := false, maLevel := false,
    monitorAddress := Config.monitorAddress false, choices := 0, pending := [] }

/-! ## Parts of the state by name -/

/-- The channel engine of a channel. -/
def State.ch (s : State) (c : Ch) : Channel := s.chans[c.val]

/-- The state with a channel engine replaced. -/
def State.setCh (s : State) (c : Ch) (v : Channel) : State := { s with chans := s.chans.set c.val v }

/-- The serializer's state of a channel. -/
def State.ann (s : State) (c : Ch) : AnnounceChannel := s.announcer[c.val]

/-- The state with a channel's serializer state replaced. -/
def State.setAnn (s : State) (c : Ch) (v : AnnounceChannel) : State := { s with announcer := s.announcer.set c.val v }

/-- The record slot of a number; a number above 95 names no slot and reads as an empty one. -/
def State.slot (s : State) (n : Nat) : Slot := (s.slots[n]?).getD Slot.empty

/-- The state with a record slot replaced; a number above 95 names no slot and changes nothing. -/
def State.setSlot (s : State) (n : Nat) (v : Slot) : State := { s with slots := s.slots.setIfInBounds n v }

/-- The edit context of an id. -/
def State.edit (s : State) (id : Fin 4) : Option EditContext := s.edits[id.val]

/-- The state with an edit context replaced. -/
def State.setEdit (s : State) (id : Fin 4) (v : Option EditContext) : State := { s with edits := s.edits.set id.val v }

/-- A port of the part. -/
def State.port (s : State) : Port → PortState
  | .host => s.host
  | .monitor => s.monitor

/-- The state with a port replaced. -/
def State.setPort (s : State) (p : Port) (v : PortState) : State :=
  match p with
  | .host => { s with host := v }
  | .monitor => { s with monitor := v }

end Sys2Proof.Machine
end

