-- ==== Sys2Proof/Machine/Flags.lean ====
section
/-! DEFINITION. The event unit: its flags by name, their setting, and the level of nIRQ. -/

namespace Sys2Proof.Machine

/-- The nine flags of a channel, in the order of their bits (R164, R168). -/
inductive ChannelFlag where
  | lockGained
  | lockLost
  | formatChanged
  | recordAmended
  | bindingReleased
  | unmatched
  | inputLost
  | holdStarted
  | holdEnded
  deriving DecidableEq, Repr

/-- The three device flags, in the order of their bits (R164, R168). -/
inductive DeviceFlag where
  | retireDone
  | retireForced
  | editExpired
  deriving DecidableEq, Repr

/-- The bit of a channel flag (R164). -/
def ChannelFlag.bit : ChannelFlag → Nat
  | .lockGained => 0
  | .lockLost => 1
  | .formatChanged => 2
  | .recordAmended => 3
  | .bindingReleased => 4
  | .unmatched => 5
  | .inputLost => 6
  | .holdStarted => 7
  | .holdEnded => 8

/-- The bit of a device flag (R164). -/
def DeviceFlag.bit : DeviceFlag → Nat
  | .retireDone => 0
  | .retireForced => 1
  | .editExpired => 2

/-- The nine flags of a channel. -/
def State.flagsOf (s : State) (c : Ch) : BitVec 9 := s.events.flags[c.val]

/-- The nine enables of a channel. -/
def State.enablesOf (s : State) (c : Ch) : BitVec 9 := s.events.enables[c.val]

/-- Whether a channel flag is set. -/
def State.hasFlag (s : State) (c : Ch) (f : ChannelFlag) : Bool := (s.flagsOf c).getLsbD f.bit

/-- Whether a device flag is set. -/
def State.hasDeviceFlag (s : State) (f : DeviceFlag) : Bool := s.events.device.getLsbD f.bit

/-- The setting of a channel flag (R169): a clear flag becomes set, a set one stays set. -/
def State.setFlag (s : State) (c : Ch) (f : ChannelFlag) : State :=
  { s with events := { s.events with flags := s.events.flags.set c.val (s.flagsOf c ||| BitVec.twoPow 9 f.bit) } }

/-- The setting of a channel flag when a condition holds. -/
def State.setFlagIf (s : State) (b : Bool) (c : Ch) (f : ChannelFlag) : State := if b then s.setFlag c f else s

/-- The setting of a device flag (R169). -/
def State.setDeviceFlag (s : State) (f : DeviceFlag) : State :=
  { s with events := { s.events with device := s.events.device ||| BitVec.twoPow 3 f.bit } }

/-- The clearing of the 54 channel flags by a channel reset (R175). -/
def State.clearChannelFlags (s : State) : State := { s with events := { s.events with flags := Vector.replicate 6 0 } }

/-- Whether nIRQ is asserted, driven low (R170). -/
def State.irqAsserted (s : State) : Bool :=
  !s.events.pinDisable &&
    (channels.any (fun c => (s.flagsOf c &&& s.enablesOf c) != 0) || (s.events.device &&& s.events.deviceEnables) != 0)

end Sys2Proof.Machine
end

