-- ==== Sys2Proof/Machine/Operands.lean ====
section
/-! DEFINITION. The parameter codes of command frames and the encodings of response data (R164 to R166). -/

namespace Sys2Proof.Machine

/-! ## Vectors, by operations that the kernel evaluates -/

/-- A function applied to each element of a vector. -/
def mapEach {α β : Type} {n : Nat} (v : Vector α n) (f : α → β) : Vector β n := ⟨(v.toList.map f).toArray, by simp⟩

/-- A function applied to the elements of two vectors at each place. -/
def zipEach {α β γ : Type} {n : Nat} (v : Vector α n) (w : Vector β n) (f : α → β → γ) : Vector γ n :=
  ⟨(List.zipWith f v.toList w.toList).toArray, by simp⟩

/-! ## Numbers and codes -/

/-- One byte of a number. -/
def byteOf (n : Nat) : Byte := BitVec.ofNat 8 n

/-- Two bytes of a number, most significant first (R163). -/
def bytes2 (n : Nat) : List Byte := [byteOf (n / 256), byteOf n]

/-- Three bytes of a number, most significant first (R163). -/
def bytes3 (n : Nat) : List Byte := [byteOf (n / 65536), byteOf (n / 256), byteOf n]

/-- The scan of a code (R164). -/
def scanOf (code : Nat) : Option Scan :=
  match code with
  | 1 => some .progressive
  | 2 => some .interlaced
  | _ => none

/-- The code of a scan (R164). -/
def Scan.code : Scan → Nat
  | .progressive => 1
  | .interlaced => 2

/-- The polarity of a code (R164). -/
def polarityOf (code : Nat) : Option Polarity :=
  match code with
  | 1 => some .positive
  | 2 => some .negative
  | _ => none

/-- The code of a polarity (R164). -/
def Polarity.code : Polarity → Nat
  | .positive => 1
  | .negative => 2

/-- The code of an optional scan, 0 for none (R164). -/
def scanCode? (s : Option Scan) : Nat := (s.map Scan.code).getD 0

/-- The code of an optional polarity, 0 for none or unknown (R164). -/
def polarityCode? (p : Option Polarity) : Nat := (p.map Polarity.code).getD 0

/-- A handle's two bytes, slot then generation (R164). -/
def handleBytes (h : Handle) : List Byte := [h.slot, h.gen]

/-- The handle of a slot number and a generation. -/
def handleAt (n : Nat) (gen : Byte) : Handle := ⟨byteOf n, gen⟩

/-- A flag as a code: 0 no, 1 yes. -/
def boolCode (b : Bool) : Nat := if b then 1 else 0

/-- The wire value of a status (R156). -/
def Status.code : Status → Byte
  | .done => 0x00
  | .pending => 0x01
  | .notReady => 0x02
  | .busy => 0x03
  | .frameError => 0x10
  | .unknownCommand => 0x11
  | .readOnly => 0x12
  | .badHandle => 0x20
  | .stale => 0x21
  | .state => 0x22
  | .protectedRecord => 0x23
  | .editOpen => 0x24
  | .noEdit => 0x25
  | .editFull => 0x26
  | .range => 0x27
  | .inconsistent => 0x28
  | .duplicate => 0x29
  | .catalogueFull => 0x2A
  | .retireFull => 0x2B
  | .channelState => 0x30
  | .noMatch => 0x31
  | .clockLocked => 0x32
  | .badChannel => 0x33

/-! ## The record body -/

/-- A body as a working copy (R25). -/
def Body.toWork (b : Body) : WorkBody :=
  { linePeriod := some b.linePeriod, lineTol := b.lineTol, frameLines := some b.frameLines, frameTol := b.frameTol,
    scan := b.scan, syncWidth := b.syncWidth, linePolarity := b.linePolarity, verticalPolarity := b.verticalPolarity,
    verifyBlock := b.verifyBlock, priority := b.priority, cls := b.cls, protect := b.protect, tag := b.tag }

/-- The working body of a NEW context (R26). -/
def WorkBody.fresh : WorkBody :=
  { linePeriod := none, lineTol := 0, frameLines := none, frameTol := 0, scan := .progressive, syncWidth := none,
    linePolarity := none, verticalPolarity := none, verifyBlock := none, priority := 1, cls := 0, protect := false, tag := 0 }

/-- The body of a working body whose required fields are both set (R32, check 2). -/
def WorkBody.toBody (w : WorkBody) : Option Body :=
  match w.linePeriod, w.frameLines with
  | some lp, some fl =>
    some { linePeriod := lp, lineTol := w.lineTol, frameLines := fl, frameTol := w.frameTol, scan := w.scan,
           syncWidth := w.syncWidth, linePolarity := w.linePolarity, verticalPolarity := w.verticalPolarity,
           verifyBlock := w.verifyBlock, priority := w.priority, cls := w.cls, protect := w.protect, tag := w.tag }
  | _, _ => none

/-- The three conditions of R11. -/
def Body.consistent (b : Body) : Bool :=
  b.lineTol < b.linePeriod / 4 && b.frameTol < b.frameLines / 4 && (b.scan != .interlaced || b.frameLines % 2 == 1)

/-- The match key of a body (R15). -/
def Body.key (b : Body) : Key := ⟨b.linePeriod, b.frameLines, b.scan⟩

/-- The field of a field number, 1 to 13 in the order of R10 (R164). -/
def fieldOf (number : Nat) : Option Field :=
  match number with
  | 1 => some .linePeriod
  | 2 => some .lineTol
  | 3 => some .frameLines
  | 4 => some .frameTol
  | 5 => some .scan
  | 6 => some .syncWidth
  | 7 => some .linePolarity
  | 8 => some .verticalPolarity
  | 9 => some .verifyBlock
  | 10 => some .priority
  | 11 => some .cls
  | 12 => some .protect
  | 13 => some .tag
  | _ => none

/-- The bit of a field in the changed-field set (R165). -/
def Field.bit : Field → Nat
  | .linePeriod => 0
  | .lineTol => 1
  | .frameLines => 2
  | .frameTol => 3
  | .scan => 4
  | .syncWidth => 5
  | .linePolarity => 6
  | .verticalPolarity => 7
  | .verifyBlock => 8
  | .priority => 9
  | .cls => 10
  | .protect => 11
  | .tag => 12

/-- A value within a range, as an option. -/
def within (n low high : Nat) : Option Nat := if low ≤ n && n ≤ high then some n else none

/-- SET FIELD's value given to a field of a working body, none where the value is outside the field's range (R10, R27). A
one-byte field has its value in the second byte, so that a first byte other than 0 is above every range (R164). -/
def WorkBody.set (w : WorkBody) (f : Field) (value : BitVec 16) : Option WorkBody :=
  let n := value.toNat
  match f with
  | .linePeriod => (within n 64 65535).map fun v => { w with linePeriod := some v }
  | .lineTol => (within n 0 1023).map fun v => { w with lineTol := v }
  | .frameLines => (within n 16 4095).map fun v => { w with frameLines := some v }
  | .frameTol => (within n 0 63).map fun v => { w with frameTol := v }
  | .scan => (scanOf n).map fun v => { w with scan := v }
  | .syncWidth =>
    match within (n / 256) 1 31, within (n % 256) 1 31 with
    | some low, some high => if low ≤ high then some { w with syncWidth := some (low, high) } else none
    | _, _ => none
  | .linePolarity => (polarityOf n).map fun v => { w with linePolarity := some v }
  | .verticalPolarity => (polarityOf n).map fun v => { w with verticalPolarity := some v }
  | .verifyBlock => (within n 8 255).map fun v => { w with verifyBlock := some v }
  | .priority => (within n 0 3).map fun v => { w with priority := v }
  | .cls => (within n 0 7).map fun v => { w with cls := v }
  | .protect => (within n 0 1).map fun v => { w with protect := v == 1 }
  | .tag => some { w with tag := value }

/-- CLEAR FIELD: the state the field has in a NEW context (R28). -/
def WorkBody.clear (w : WorkBody) (f : Field) : WorkBody :=
  match f with
  | .linePeriod => { w with linePeriod := none }
  | .lineTol => { w with lineTol := 0 }
  | .frameLines => { w with frameLines := none }
  | .frameTol => { w with frameTol := 0 }
  | .scan => { w with scan := .progressive }
  | .syncWidth => { w with syncWidth := none }
  | .linePolarity => { w with linePolarity := none }
  | .verticalPolarity => { w with verticalPolarity := none }
  | .verifyBlock => { w with verifyBlock := none }
  | .priority => { w with priority := 1 }
  | .cls => { w with cls := 0 }
  | .protect => { w with protect := false }
  | .tag => { w with tag := 0 }

/-- The presence byte of an encoded body (R165). -/
def WorkBody.presence (w : WorkBody) : Nat :=
  boolCode w.linePeriod.isSome + 2 * boolCode w.frameLines.isSome + 4 * boolCode w.syncWidth.isSome +
    8 * boolCode w.linePolarity.isSome + 16 * boolCode w.verticalPolarity.isSome + 32 * boolCode w.verifyBlock.isSome

/-- The 19 bytes of a body (R165). A field that is unset or absent is encoded as 0. -/
def WorkBody.encode (w : WorkBody) : List Byte :=
  [byteOf w.presence] ++ bytes2 (w.linePeriod.getD 0) ++ bytes2 w.lineTol ++ bytes2 (w.frameLines.getD 0) ++
    [byteOf w.frameTol, byteOf w.scan.code, byteOf (w.syncWidth.getD (0, 0)).1, byteOf (w.syncWidth.getD (0, 0)).2,
     byteOf (polarityCode? w.linePolarity), byteOf (polarityCode? w.verticalPolarity), byteOf (w.verifyBlock.getD 0),
     byteOf w.priority, byteOf w.cls, byteOf (boolCode w.protect)] ++ bytes2 w.tag.toNat

/-! ## Channel settings -/

/-- The mode of a code (R164). -/
def modeOf (code : Nat) : Option Mode :=
  match code with
  | 1 => some .track
  | 2 => some .oneShot
  | _ => none

/-- The hold policy of a code (R164). -/
def holdPolicyOf (code : Nat) : Option HoldPolicy :=
  match code with
  | 0 => some .none
  | 1 => some .last
  | 2 => some .fixed
  | _ => none

/-- The hold record of its presence byte and handle; none within the option when absent (R164). -/
def holdRecordOf (present : Byte) (h : Handle) : Option (Option Handle) :=
  match present.toNat with
  | 0 => some none
  | 1 => some (some h)
  | _ => none

/-- Whether a block size is one of the five (R79). -/
def blockSizeOk (n : Nat) : Bool := [8, 16, 32, 64, 128].contains n

/-- The settings that CONFIGURE CHANNEL carries, none where a value is outside its range (R79, R80). -/
def settingsOf (r : RawSettings) : Option Settings := do
  let mode ← modeOf r.mode.toNat
  let blockSize ← if blockSizeOk r.blockSize.toNat then some r.blockSize.toNat else none
  let stabilityWindow ← within r.stabilityWindow.toNat 1 63
  let stabilityTarget ← within r.stabilityTarget.toNat 16 255
  let frameTarget ← within r.frameTarget.toNat 2 8
  let marginLines ← within r.marginLines.toNat 0 15
  let blockReleaseRun ← within r.blockReleaseRun.toNat 1 15
  let frameReleaseRun ← within r.frameReleaseRun.toNat 1 7
  let neighbourhood ← within r.neighbourhood.toNat 0 4095
  let lineLoss ← within r.lineLoss.toNat 1 255
  let verticalLoss ← within r.verticalLoss.toNat 1 255
  let holdPolicy ← holdPolicyOf r.holdPolicy.toNat
  let holdRecord ← holdRecordOf r.holdPresent r.holdRecord
  return {
    mode, classMask := r.classMask, blockSize, stabilityWindow, stabilityTarget, frameTarget,
    marginTicks := r.marginTicks.toNat, marginLines, blockReleaseRun, frameReleaseRun, neighbourhood, lineLoss, verticalLoss,
    holdPolicy, holdRecord, holdLimit := r.holdLimit.toNat }

/-! ## Response data -/

/-- The code of a slot state in READ RECORD (R164); a FREE slot is never read. -/
def SlotState.code : SlotState → Nat
  | .free => 0
  | .live => 1
  | .retiring => 2

/-- The 25 bytes of READ RECORD (R19, R164). -/
def encodeRecord (h : Handle) (v : Slot) : List Byte :=
  handleBytes h ++ [byteOf v.state.code, v.rev, byteOf v.count, (v.mark.map fun m => byteOf m.val).getD 0xFF] ++
    v.body.toWork.encode

/-- The 24 bytes of READ EDIT (R30, R164, R165). That the two handle bytes are 0 where the target is NEW is the model's (DEDUCED,
unsafe, entry 33). -/
def EditContext.encode (e : EditContext) : List Byte :=
  (match e.target with
    | none => [0, 0, 0]
    | some h => 1 :: handleBytes h) ++ bytes2 e.changed.toNat ++ e.body.encode

/-- The code of an acquisition state (R166). -/
def Acq.code : Acq → Nat
  | .off => 0
  | .seeking => 1
  | .measuring => 2
  | .unmatched => 3
  | .locked => 4
  | .drifting => 5
  | .frozen => 6
  | .forced => 7

/-- The code of an origin (R166). -/
def Origin.code : Origin → Nat
  | .found => 1
  | .force => 2
  | .hold => 3

/-- Bytes 3 to 7 of READ CHANNEL (R166). -/
def ChannelBinding.encode : ChannelBinding → List Byte
  | .none => [0, 0, 0, 0, 0]
  | .holding b => [1, b.handle.slot, b.handle.gen, b.revSeen, byteOf b.origin.code]
  | .departing d => [2, d.handle.slot, d.handle.gen, 0, 0]

/-- The code of the request in the outstanding-request slot (R166). -/
def requestCode : Option Request → Nat
  | none => 0
  | some (.acquire _) => 1
  | some (.rematch _) => 2
  | some (.rebuild _) => 3
  | some (.release _) => 4

/-- Bytes 8 to 17 of READ CHANNEL: the count of the shortlist and its three entries (R166). -/
def encodeShortlist (l : List ShortEntry) : List Byte :=
  byteOf l.length :: ((l.flatMap fun (e : ShortEntry) => [e.handle.slot, e.handle.gen, e.rev]) ++ List.replicate 9 0).take 9

/-- The marks byte of READ CHANNEL (R166). -/
def Channel.marksCode (ch : Channel) : Nat := boolCode ch.reverify.isSome + 2 * boolCode ch.stale + 4 * boolCode ch.rematch

/-- The 23 bytes of READ CHANNEL (R162, R166). -/
def encodeChannel (c : Ch) (ch : Channel) (a : AnnounceChannel) : List Byte :=
  [byteOf c.val, byteOf ch.acq.code, byteOf (boolCode ch.generator.isSome)] ++ ch.binding.encode ++
    encodeShortlist ch.shortlist ++
    [byteOf ch.marksCode, byteOf (requestCode ch.request), byteOf a.seq.toNat, byteOf (boolCode a.entry.isSome),
     (a.lastSent.map fun n => byteOf n.toNat).getD 0xFF]

/-- The 16 bytes of READ MEASUREMENT (R77, R166). -/
def encodeMeasurement (c : Ch) (r : MeasureRecord) : List Byte :=
  [byteOf c.val, byteOf (boolCode r.valid)] ++ bytes2 r.linePeriod ++ bytes2 r.frameLines ++ [byteOf (scanCode? r.scan)] ++
    bytes2 r.syncWidth ++
    [byteOf (polarityCode? r.linePolarity), byteOf (polarityCode? r.verticalPolarity), byteOf r.frameRun,
     byteOf r.stabilityRun, byteOf r.outBlockRun, byteOf r.outFrameRun, 0]

/-- The 27 bytes of READ EVENTS (R171). -/
def EventUnit.encode (e : EventUnit) : List Byte :=
  (e.flags.toList.flatMap fun f => bytes2 f.toNat) ++ [byteOf e.device.toNat] ++
    (e.enables.toList.flatMap fun f => bytes2 f.toNat) ++ [byteOf e.deviceEnables.toNat, byteOf (boolCode e.pinDisable)]

/-- How many slots are in a state (R157). -/
def State.countSlots (s : State) (x : SlotState) : Nat := s.slots.toList.countP fun v => v.state == x

/-- The set of OPEN edit ids, bit n for id n (R166). -/
def State.openEdits (s : State) : Nat :=
  boolCode (s.edit 0).isSome + 2 * boolCode (s.edit 1).isSome + 4 * boolCode (s.edit 2).isSome + 8 * boolCode (s.edit 3).isSome

/-- The 31 bytes of READ DEVICE (R157, R166). -/
def State.encodeDevice (s : State) : List Byte :=
  bytes2 Config.partCode ++
    [byteOf Config.partRevision, byteOf (s.countSlots .live), byteOf (s.countSlots .retiring), byteOf (s.countSlots .free),
     byteOf s.openEdits, byteOf s.retiring.length] ++
    ((s.retiring.flatMap fun (e : RetireEntry) => handleBytes e.handle) ++ List.replicate 16 0).take 16 ++ bytes3 s.time.refclk ++
    [byteOf s.time.divider, byteOf s.time.lease, byteOf s.time.retire, byteOf (boolCode s.time.announce)]

end Sys2Proof.Machine
end

