-- ==== Sys2Proof/Machine/Wire.lean ====
section
/-! DEFINITION. Command and response frames, their check byte, the intake checks, and the announcement frame. -/

namespace Sys2Proof.Machine

/-! ## The check byte -/

/-- One shift of the check register, with the polynomial x^8 + x^2 + x + 1 (R163). -/
def crcShift (r : Byte) : Byte := if r.msb then (r <<< 1) ^^^ 0x07 else r <<< 1

/-- The check register after one byte, most significant bit first (R163). -/
def crcByte (r b : Byte) : Byte :=
  crcShift (crcShift (crcShift (crcShift (crcShift (crcShift (crcShift (crcShift (r ^^^ b))))))))

/-- The check register after a run of bytes, beginning at 0xFF (R163). -/
def crcOf (bytes : List Byte) : Byte := bytes.foldl crcByte 0xFF

/-- A frame: its bytes followed by their check byte (R163). -/
def withCheck (bytes : List Byte) : List Byte := bytes ++ [crcOf bytes]

/-- A response frame (R163). -/
def responseFrame (r : Response) : List Byte := withCheck ([r.status.code, r.tag, byteOf r.data.length] ++ r.data)

/-! ## The command set -/

/-- The parameter length of a command code, none where no command has the code (R164). -/
def parameterLength (code : Byte) : Option Nat :=
  match code.toNat with
  | 0x01 => some 0
  | 0x02 => some 7
  | 0x03 => some 1
  | 0x10 => some 2
  | 0x11 => some 6
  | 0x12 => some 10
  | 0x13 => some 3
  | 0x14 => some 4
  | 0x15 => some 2
  | 0x16 => some 1
  | 0x17 => some 1
  | 0x18 => some 1
  | 0x19 => some 2
  | 0x20 => some 20
  | 0x21 => some 1
  | 0x22 => some 1
  | 0x23 => some 1
  | 0x24 => some 3
  | 0x25 => some 1
  | 0x26 => some 1
  | 0x27 => some 1
  | 0x30 => some 0
  | 0x31 => some 13
  | 0x32 => some 14
  | _ => none

/-- Two parameter bytes as one number, most significant first (R163). -/
def pair (high low : Byte) : BitVec 16 := high ++ low

/-- RESET DEVICE of a selector (R159, R160). -/
def resetCommand (selector : Byte) : Cmd := if selector = 0 then .resetFull else .resetOther selector

/-- LIST RECORDS of a selector and an after-key; the rest is ignored after START (R20, R164). -/
def listCommand (selector : Byte) (lp fl : BitVec 16) (scan : Byte) : Cmd :=
  if selector = 0 then .listStart else .listAfter selector lp fl scan

/-- OPEN EDIT of a selector and a handle; the handle is ignored with NEW (R164). -/
def openCommand (selector : Byte) (h : Handle) : Cmd := if selector = 0 then .openEditNew else .openEdit selector h

/-- The command of a code and its parameter bytes, none where the two do not fit (R164). -/
def parseCommand (code : Byte) (ps : List Byte) : Option Cmd :=
  match code.toNat, ps with
  | 0x01, [] => some .readDevice
  | 0x02, [f2, f1, f0, d, l, r, a] => some (.setupDevice ((f2 ++ f1 : BitVec 16) ++ f0) d l r a)
  | 0x03, [sel] => some (resetCommand sel)
  | 0x10, [n, g] => some (.readRecord ⟨n, g⟩)
  | 0x11, [sel, p1, p0, f1, f0, scan] => some (listCommand sel (pair p1 p0) (pair f1 f0) scan)
  | 0x12, [p1, p0, f1, f0, scan, w1, w0, lp, vp, k] =>
    some (.findFormat (pair p1 p0) (pair f1 f0) scan (pair w1 w0) lp vp k)
  | 0x13, [sel, n, g] => some (openCommand sel ⟨n, g⟩)
  | 0x14, [e, f, v1, v0] => some (.setField e f (pair v1 v0))
  | 0x15, [e, f] => some (.clearField e f)
  | 0x16, [e] => some (.readEdit e)
  | 0x17, [e] => some (.commitEdit e)
  | 0x18, [e] => some (.dropEdit e)
  | 0x19, [n, g] => some (.retireRecord ⟨n, g⟩)
  | 0x20, [c, mode, mask, block, sw, st, ft, mt, ml, br, fr, n1, n0, ll, vl, hp, hr, hn, hg, hl] =>
    some (.configureChannel c
      { mode := mode, classMask := mask, blockSize := block, stabilityWindow := sw, stabilityTarget := st, frameTarget := ft,
        marginTicks := mt, marginLines := ml, blockReleaseRun := br, frameReleaseRun := fr, neighbourhood := pair n1 n0,
        lineLoss := ll, verticalLoss := vl, holdPolicy := hp, holdPresent := hr, holdRecord := ⟨hn, hg⟩, holdLimit := hl })
  | 0x21, [c] => some (.startChannel c)
  | 0x22, [c] => some (.stopChannel c)
  | 0x23, [c] => some (.rearmChannel c)
  | 0x24, [c, n, g] => some (.forceBinding c ⟨n, g⟩)
  | 0x25, [c] => some (.readChannel c)
  | 0x26, [c] => some (.readMeasurement c)
  | 0x27, [c] => some (.flushShortlist c)
  | 0x30, [] => some .readEvents
  | 0x31, [a1, a0, b1, b0, c1, c0, d1, d0, e1, e0, f1, f0, dev] =>
    some (.clearEvents #v[pair a1 a0, pair b1 b0, pair c1 c0, pair d1 d0, pair e1 e0, pair f1 f0] dev)
  | 0x32, [a1, a0, b1, b0, c1, c0, d1, d0, e1, e0, f1, f0, dev, pin] =>
    some (.setEventMasks #v[pair a1 a0, pair b1 b0, pair c1 c0, pair d1 d0, pair e1 e0, pair f1 f0] dev pin)
  | _, _ => none

end Sys2Proof.Machine

namespace Sys2Proof

/-- Whether the monitor port accepts a command (R150, check 5). -/
def Cmd.monitorAllowed : Cmd → Bool
  | .readDevice | .readRecord _ | .listStart | .listAfter _ _ _ _ | .findFormat _ _ _ _ _ _ _ | .readChannel _
  | .readMeasurement _ => true
  | _ => false

/-- Whether a port accepts a command (R150, check 5). -/
def Cmd.allowedOn (cmd : Cmd) (p : Port) : Bool := p == .host || cmd.monitorAllowed

/-- Whether the catalogue controller serves a command (R40, R152). -/
def Cmd.byController : Cmd → Bool
  | .readDevice | .readRecord _ | .listStart | .listAfter _ _ _ _ | .findFormat _ _ _ _ _ _ _ | .openEdit _ _ | .openEditNew
  | .setField _ _ _ | .clearField _ _ | .readEdit _ | .commitEdit _ | .dropEdit _ | .retireRecord _ | .forceBinding _ _ => true
  | _ => false

/-- Whether the port itself takes a command, at once: RESET DEVICE (R152). -/
def Cmd.byPort : Cmd → Bool
  | .resetFull | .resetOther _ => true
  | _ => false

end Sys2Proof

namespace Sys2Proof.Machine

/-- The tag of a frame: its second byte, or 0 when it has fewer than two (R150). -/
def frameTag : List Byte → Byte
  | _ :: tag :: _ => tag
  | _ => 0

/-- The intake checks of R150 in their order: the status of the first that fails, or the command. -/
def intake (p : Port) (frame : List Byte) : Except Status Cmd :=
  match frame with
  | code :: _ :: len :: rest =>
    if frame.length < 4 || 68 < frame.length || frame.length != len.toNat + 4 then .error .frameError
    else if crcOf frame != 0 then .error .frameError
    else match parameterLength code with
      | none => .error .unknownCommand
      | some n =>
        if len.toNat != n then .error .frameError
        else match parseCommand code (rest.take n) with
          | none => .error .frameError
          | some cmd => if cmd.allowedOn p then .ok cmd else .error .readOnly
  | _ => .error .frameError

end Sys2Proof.Machine

namespace Sys2Proof

/-- The row of spec/opcode_table.json that takes a command which came by a port with a tag. -/
def Cmd.row (cmd : Cmd) (p : Port) (tag : Byte) : Instr :=
  match cmd with
  | .readDevice => .readDevice p tag
  | .setupDevice f d l r a => .setupDevice p tag f d l r a
  | .resetFull => .resetDeviceFull p tag
  | .resetOther sel => .resetDeviceChannels p tag sel
  | .readRecord h => .readRecord p tag h
  | .listStart => .listRecordsStart p tag
  | .listAfter sel lp fl scan => .listRecordsAfterKey p tag sel lp fl scan
  | .findFormat lp fl scan sw lpol vpol k => .findFormat p tag lp fl scan sw lpol vpol k
  | .openEdit sel h => .openEdit p tag sel h
  | .openEditNew => .openEditNew p tag
  | .setField e f v => .setField p tag e f v
  | .clearField e f => .clearField p tag e f
  | .readEdit e => .readEdit p tag e
  | .commitEdit e => .commitEdit p tag e
  | .dropEdit e => .dropEdit p tag e
  | .retireRecord h => .retireRecord p tag h
  | .configureChannel c r => .configureChannel p tag c r
  | .startChannel c => .startChannel p tag c
  | .stopChannel c => .stopChannel p tag c
  | .rearmChannel c => .rearmChannel p tag c
  | .forceBinding c h => .forceBinding p tag c h
  | .readChannel c => .readChannel p tag c
  | .readMeasurement c => .readMeasurement p tag c
  | .flushShortlist c => .flushShortlist p tag c
  | .readEvents => .readEvents p tag
  | .clearEvents m d => .clearEvents p tag m d
  | .setEventMasks m d pin => .setEventMasks p tag m d pin

end Sys2Proof

namespace Sys2Proof

/-- Two bytes of a 16-bit parameter, most significant first (R163). -/
def wordBytes (v : BitVec 16) : List Byte := [v.extractLsb' 8 8, v.extractLsb' 0 8]

/-- The selector of a command that stands beside a sibling with selector 0 (R164). -/
def Cmd.wellFormed : Cmd → Bool
  | .resetOther sel => sel != 0
  | .listAfter sel _ _ _ => sel != 0
  | .openEdit sel _ => sel != 0
  | _ => true

/-- The code of a command (R164). -/
def Cmd.code : Cmd → Byte
  | .readDevice => 0x01
  | .setupDevice _ _ _ _ _ => 0x02
  | .resetFull | .resetOther _ => 0x03
  | .readRecord _ => 0x10
  | .listStart | .listAfter _ _ _ _ => 0x11
  | .findFormat _ _ _ _ _ _ _ => 0x12
  | .openEdit _ _ | .openEditNew => 0x13
  | .setField _ _ _ => 0x14
  | .clearField _ _ => 0x15
  | .readEdit _ => 0x16
  | .commitEdit _ => 0x17
  | .dropEdit _ => 0x18
  | .retireRecord _ => 0x19
  | .configureChannel _ _ => 0x20
  | .startChannel _ => 0x21
  | .stopChannel _ => 0x22
  | .rearmChannel _ => 0x23
  | .forceBinding _ _ => 0x24
  | .readChannel _ => 0x25
  | .readMeasurement _ => 0x26
  | .flushShortlist _ => 0x27
  | .readEvents => 0x30
  | .clearEvents _ _ => 0x31
  | .setEventMasks _ _ _ => 0x32

/-- The parameter bytes of CONFIGURE CHANNEL after its channel (R164). -/
def RawSettings.bytes (r : RawSettings) : List Byte :=
  [r.mode, r.classMask, r.blockSize, r.stabilityWindow, r.stabilityTarget, r.frameTarget, r.marginTicks, r.marginLines,
   r.blockReleaseRun, r.frameReleaseRun] ++ wordBytes r.neighbourhood ++
    [r.lineLoss, r.verticalLoss, r.holdPolicy, r.holdPresent, r.holdRecord.slot, r.holdRecord.gen, r.holdLimit]

/-- The parameter bytes of a command (R164); those that are ignored are sent as 0. -/
def Cmd.parameters : Cmd → List Byte
  | .readDevice | .readEvents => []
  | .setupDevice f d l r a => [f.extractLsb' 16 8, f.extractLsb' 8 8, f.extractLsb' 0 8, d, l, r, a]
  | .resetFull => [0]
  | .resetOther sel => [sel]
  | .readRecord h | .retireRecord h => [h.slot, h.gen]
  | .listStart => [0, 0, 0, 0, 0, 0]
  | .listAfter sel lp fl scan => [sel] ++ wordBytes lp ++ wordBytes fl ++ [scan]
  | .findFormat lp fl scan sw lpol vpol k => wordBytes lp ++ wordBytes fl ++ [scan] ++ wordBytes sw ++ [lpol, vpol, k]
  | .openEdit sel h => [sel, h.slot, h.gen]
  | .openEditNew => [0, 0, 0]
  | .setField e f v => [e, f] ++ wordBytes v
  | .clearField e f => [e, f]
  | .readEdit e | .commitEdit e | .dropEdit e => [e]
  | .configureChannel c r => c :: r.bytes
  | .startChannel c | .stopChannel c | .rearmChannel c | .readChannel c | .readMeasurement c | .flushShortlist c => [c]
  | .forceBinding c h => [c, h.slot, h.gen]
  | .clearEvents m d => m.toList.flatMap wordBytes ++ [d]
  | .setEventMasks m d pin => m.toList.flatMap wordBytes ++ [d, pin]

/-- The command frame of a command with a tag (R163). -/
def Cmd.frame (cmd : Cmd) (tag : Byte) : List Byte :=
  Machine.withCheck ([cmd.code, tag, Machine.byteOf cmd.parameters.length] ++ cmd.parameters)

end Sys2Proof

namespace Sys2Proof.Machine

/-! ## The announcement frame -/

/-- The code of a qualifier (R167). -/
def Qualifier.code : Qualifier → BitVec 3
  | .none => 0
  | .locked => 1
  | .drifting => 2
  | .substitute => 3
  | .forced => 4
  | .frozen => 5

/-- Whether the number of ones among `count` bits, `bit`, `bit + 2` and so on, is odd. -/
def oddOnes (x : BitVec 78) (bit : Nat) : Nat → Bool
  | 0 => false
  | count + 1 => x.getLsbD bit ^^ oddOnes x (bit + 2) count

/-- Bits 79 to 2 of an announcement frame (R167). -/
def announceFields (c : Ch) (seq : BitVec 4) (a : Announced) : BitVec 78 :=
  BitVec.ofNat 3 c.val ++ seq ++ a.qualifier.code ++ a.handle.slot.setWidth 7 ++ a.handle.gen ++ a.rev ++ a.tag ++
    BitVec.ofNat 16 a.linePeriod ++ BitVec.ofNat 12 a.frameLines ++ BitVec.ofBool (a.scan == .interlaced)

/-- The 80 bits of an announcement frame with its two check bits: bit 1 makes the ones of the odd bits even, bit 0 those of
the even bits (R167). -/
def announceFrame (c : Ch) (seq : BitVec 4) (a : Announced) : BitVec 80 :=
  let x := announceFields c seq a
  x ++ BitVec.ofBool (oddOnes x 1 39) ++ BitVec.ofBool (oddOnes x 0 39)

end Sys2Proof.Machine
end

