-- ==== Sys2Proof/Machine/Ops.lean ====
section
/-! DEFINITION. The shared operations of the catalogue store, the controller, the serializer and the ports. -/

namespace Sys2Proof.Machine

/-! ## Small arithmetic -/

/-- The absolute difference of two quantities (00_scope, Numbers and ranges). -/
def dist (a b : Nat) : Nat := (a - b) + (b - a)

/-- A timer loaded with a count of units (R60). -/
def loadTimer (units : Nat) : Option Timer := some { units := units, elapsed := 0 }

/-- A hold-limit timer loaded from a hold limit, stopped for the limit 0 (R130, R136). -/
def loadLimit (units : Nat) : Option Timer := if units = 0 then none else loadTimer units

/-! ## Handles -/

/-- Whether a handle is current: the slot it names is not FREE and has the handle's generation (R6). -/
def State.current (s : State) (h : Handle) : Bool :=
  h.slot.toNat < 96 && (s.slot h.slot.toNat).state != .free && (s.slot h.slot.toNat).gen == h.gen

/-- Whether a handle is current and its record LIVE. -/
def State.currentLive (s : State) (h : Handle) : Bool := s.current h && (s.slot h.slot.toNat).state == .live

/-- Whether a handle is current and its record RETIRING. -/
def State.currentRetiring (s : State) (h : Handle) : Bool := s.current h && (s.slot h.slot.toNat).state == .retiring

/-- The record slot a handle names. -/
def State.record (s : State) (h : Handle) : Slot := s.slot h.slot.toNat

/-- The two checks of a handle at a command's grant (R6): the status of the first that fails, none when both pass. -/
def State.handleError (s : State) (h : Handle) : Option Status :=
  if 95 < h.slot.toNat then some .badHandle else if s.current h then none else some .stale

/-- The handle of the record in a slot. -/
def State.handleOf (s : State) (n : Nat) : Handle := handleAt n (s.slot n).gen

/-! ## Match keys and the match index -/

/-- The place of a scan in the order of match keys (R15). -/
def Scan.rank : Scan → Nat
  | .progressive => 0
  | .interlaced => 1

/-- Whether a match key is less than another (R15). -/
def Key.less (a b : Key) : Bool :=
  a.linePeriod < b.linePeriod ||
    (a.linePeriod == b.linePeriod &&
      (a.frameLines < b.frameLines || (a.frameLines == b.frameLines && a.scan.rank < b.scan.rank)))

/-- The match key of the record in a slot. -/
def State.keyAt (s : State) (n : Nat) : Key := (s.slot n).body.key

/-- Whether slot `a` stands before slot `b` in index order (R17). -/
def State.before (s : State) (a b : Nat) : Bool := (s.keyAt a).less (s.keyAt b) || (s.keyAt a == s.keyAt b && a < b)

/-- A slot number inserted at its place in a list in index order (R18). -/
def State.place (s : State) (n : Nat) : List Nat → List Nat
  | [] => [n]
  | m :: l => if s.before n m then n :: m :: l else m :: s.place n l

/-- The match index with the record in a slot inserted at its place (R18). -/
def State.indexInsert (s : State) (n : Nat) : State := { s with index := s.place n s.index }

/-- The match index with a record removed (R18). -/
def State.indexRemove (s : State) (n : Nat) : State := { s with index := s.index.filter fun m => m != n }

/-- The lowest-numbered FREE slot (R34). -/
def State.lowestFree (s : State) : Option Nat := (List.range 96).find? fun n => (s.slot n).state == .free

/-- Whether a LIVE record other than the one in slot `own` has a match key (R16; R32, check 5). -/
def State.keyTaken (s : State) (k : Key) (own : Option Nat) : Bool :=
  s.index.any fun n => (s.slot n).state == .live && s.keyAt n == k && some n != own

/-! ## Binding counts and retirement -/

/-- A slot going to FREE: its generation is incremented and its record ceases to exist (R5). -/
def State.freeSlot (s : State) (n : Nat) : State :=
  let v := s.slot n
  s.setSlot n { v with state := .free, gen := v.gen + 1, count := 0, mark := none, body := Body.blank }

/-- The completion of a pending retirement (R123). -/
def State.completeRetirement (s : State) (h : Handle) : State :=
  let s1 := s.freeSlot h.slot.toNat
  { s1 with retiring := s1.retiring.filter fun e => e.handle != h }.setDeviceFlag .retireDone

/-- The binding count of the record a handle names, incremented (R8, R110). -/
def State.countUp (s : State) (h : Handle) : State :=
  let v := s.record h
  s.setSlot h.slot.toNat { v with count := v.count + 1 }

/-- The binding count of the record a handle names, decremented; a RETIRING record whose count reaches 0 completes its
retirement (R110, R123). -/
def State.countDown (s : State) (h : Handle) : State :=
  if s.current h then
    let v := s.record h
    let s1 := s.setSlot h.slot.toNat { v with count := v.count - 1 }
    if v.state == .retiring && v.count ≤ 1 then s1.completeRetirement h else s1
  else s

/-- A binding made to a LIVE record at a grant: its body and revision are those of the record (R109). -/
def State.bindingTo (s : State) (h : Handle) (origin : Origin) : Binding :=
  { handle := h, revSeen := (s.record h).rev, origin := origin, body := (s.record h).body }

/-! ## The arbiter -/

/-- The place of a port among the eight requesters (R41). -/
def portRequester : Port → Fin 8
  | .host => 0
  | .monitor => 1

/-- The place of a channel among the eight requesters (R41). -/
def chRequester (c : Ch) : Fin 8 := ⟨c.val + 2, by omega⟩

/-- Whether a port has a request posted: a command of the controller in EXECUTING (R40). -/
def PortState.posted (p : PortState) : Bool :=
  match p.slot with
  | .executing _ cmd => cmd.byController
  | _ => false

/-- Whether a requester has a request posted (R40). -/
def State.posted (s : State) (r : Fin 8) : Bool :=
  if r = 0 then s.host.posted
  else if r = 1 then s.monitor.posted
  else if h : r.val - 2 < 6 then (s.ch ⟨r.val - 2, h⟩).request.isSome
  else false

/-- The eight requesters in rotating order after one (R41). -/
def requestersAfter (r : Fin 8) : List (Fin 8) := [r + 1, r + 2, r + 3, r + 4, r + 5, r + 6, r + 7, r]

/-- The requester the arbiter grants: the first that has a posted request, following the one granted last (R41). -/
def State.arbiter (s : State) : Option (Fin 8) := (requestersAfter s.granted).find? s.posted

/-! ## Announcements -/

/-- The announced state of a holding binding with a qualifier (R141). -/
def Binding.announce (b : Binding) (q : Qualifier) : Announced :=
  { qualifier := q, handle := b.handle, rev := b.revSeen, tag := b.body.tag, linePeriod := b.body.linePeriod,
    frameLines := b.body.frameLines, scan := b.body.scan }

/-- The announced state a channel forms (R107). -/
def Channel.announced (ch : Channel) : Announced :=
  match ch.binding with
  | .holding b =>
    match ch.acq with
    | .off => Announced.nothing
    | .seeking | .measuring | .unmatched => if ch.generator.isSome then b.announce .substitute else Announced.nothing
    | .locked => b.announce .locked
    | .drifting => b.announce .drifting
    | .frozen => b.announce .frozen
    | .forced => b.announce .forced
  | _ => Announced.nothing

/-- The channels in rotating order after one (R143). -/
def channelsAfter (c : Ch) : List Ch := [c + 1, c + 2, c + 3, c + 4, c + 5, c]

/-- The channel whose pending entry the serializer takes next (R143, step 1). -/
def State.nextToSend (s : State) : Option Ch := (channelsAfter s.lastSent).find? fun c => (s.ann c).entry.isSome

/-- The beginning of a frame, where its three conditions hold (R143). Its first bit waits for what is left of the AN_CLK period
after the last completion (R144, entry 19). -/
def State.beginFrame (s : State) : State :=
  if s.link.isNone && s.time.announce then
    match s.nextToSend with
    | none => s
    | some c =>
      match (s.ann c).entry with
      | none => s
      | some (a, seq) =>
        { s.setAnn c { s.ann c with entry := none, lastSent := some seq } with
          lastSent := c
          link := some { channel := c, announced := a, seq := seq, frame := announceFrame c seq a, elapsed := 0 } }
  else s

/-- The making of an announcement where the state handed on differs from the announced state (R141, steps 1 to 3). -/
def State.announceChange (s : State) (c : Ch) : State :=
  let a := (s.ch c).announced
  let x := s.ann c
  if a = x.announced then s
  else s.setAnn c { x with announced := a, seq := x.seq + 1, entry := some (a, x.seq + 1) }

/-- A channel handing on its announced state (R107, R141). -/
def State.handOn (s : State) (c : Ch) : State :=
  if (s.ch c).announced = (s.ann c).announced then s else (s.announceChange c).beginFrame

/-! ## Resets -/

/-- A full reset taking effect on every block (R160): every piece of state takes its full reset value and MA is sampled. The
pins' levels are the board's, and no command but POWER_ON and NRESET_RELEASE changes that of MA (entry 6); the queue and the
count of choices are the model's own. A port keeps what a read in progress was returning (entry 23). -/
def State.fullReset (s : State) : State :=
  { State.reset with
    host := s.host.cut, monitor := s.monitor.cut, resetLow := s.resetLow, maLevel := s.maLevel,
    monitorAddress := Config.monitorAddress s.maLevel, choices := s.choices, pending := s.pending }

/-! ## The command slot -/

/-- The first byte of a command frame on a port (R151, R160). -/
def State.frameStart (s : State) (p : Port) : State :=
  if s.resetLow then s
  else
    let s1 := if s.resetWaiting then s.fullReset else s
    match (s1.port p).slot with
    | .empty => s1.setPort p { s1.port p with slot := .receiving, refusing := false, lost := .empty }
    | _ => s1.setPort p { s1.port p with refusing := true, lost := .empty }

/-- A response placed in a port's response buffer: the slot goes to READY (R149). -/
def State.respond (s : State) (p : Port) (r : Response) : State := s.setPort p { s.port p with slot := .ready r }

/-- The arrival of a whole command frame that passes checks 1 to 4 of R150, where the port's slot would take it: its first
byte, then check 5 at its end (entry 2). A port whose slot is occupied refuses it with BUSY and nothing changes (R151). -/
def State.present (s : State) (p : Port) (tag : Byte) (cmd : Cmd) : State :=
  if s.resetLow then s
  else if (s.port p).slot = .empty || s.resetWaiting then
    let s1 := s.frameStart p
    if cmd.allowedOn p then s1.setPort p { s1.port p with slot := .executing tag cmd }
    else s1.respond p { status := .readOnly, tag := tag, data := [] }
  else s

/-- What a block answers to a command it takes: a status and the response data (R152). -/
structure Reply where
  status : Status
  data : List Byte
  deriving DecidableEq, Repr

/-- A reply that carries no data (R156). -/
def Reply.of (status : Status) : Reply := { status := status, data := [] }

/-- Whether the block that takes a command may take it now: the controller at the arbiter's grant (R41), every other block at
once (R152). -/
def State.mayTake (s : State) (p : Port) (cmd : Cmd) : Bool := !cmd.byController || s.arbiter == some (portRequester p)

/-- The taking of a command in EXECUTING by its block (R152): it is served whole and its response is placed as the last step.
A command of the controller makes its port the requester granted last (R41). -/
def State.take (s : State) (p : Port) (tag : Byte) (cmd : Cmd) (serve : State → State × Reply) : State :=
  if (s.port p).slot = .executing tag cmd && s.mayTake p cmd then
    let r := serve (if cmd.byController then { s with granted := (portRequester p) } else s)
    r.1.respond p { status := r.2.status, tag := tag, data := r.2.data }
  else s

/-- A command's row (entry 2): where the port's slot does not hold the command yet, its frame arrives; then it is taken, where
it is in EXECUTING and its block may take it. -/
def State.command (s : State) (p : Port) (tag : Byte) (cmd : Cmd) (serve : State → State × Reply) : State :=
  (if (s.port p).slot = .executing tag cmd then s else s.present p tag cmd).take p tag cmd serve

/-- The NOT_READY of a read that began before the slot held its response, with the tag of the command that was executing, or
0 (R153). A response that was placed since has that command's tag. -/
def CommandSlot.notReady (x : CommandSlot) : Response :=
  { status := .notReady
    tag := match x with
      | .executing tag _ => tag
      | .ready r => r.tag
      | .empty | .receiving => 0
    data := [] }

/-- What a read returns by the slot and by whether the slot was READY when the read began (R153); none where a read cannot have
begun so. -/
def CommandSlot.readAs (x : CommandSlot) (ready : Bool) : Option Response :=
  match ready, x with
  | false, x => some x.notReady
  | true, .ready r => some r
  | true, _ => none

/-- What a read of a port that begins now returns (R153). -/
def PortState.response (p : PortState) : Response :=
  match p.slot with
  | .ready r => r
  | x => x.notReady

/-- The bytes of a read of a response: the response frame, then 0x00 for each further byte (R154, R155). -/
def Response.bytes (r : Response) (count : Nat) : List Byte := (responseFrame r ++ List.replicate count 0).take count

/-- The bytes of a read of a response that a full reset cut after `cut` bytes: 0x00 for each further byte (R160). -/
def Response.cutBytes (r : Response) (cut count : Nat) : List Byte := (r.bytes cut ++ List.replicate count 0).take count

/-- The bytes a port returns for a read of `count` bytes that begins now (R154, R155). -/
def PortState.readBytes (p : PortState) (count : Nat) : List Byte := p.response.bytes count

/-- The end of a read that began with the slot READY and took `taken` bytes of the response frame: taken whole, through its
check byte, it frees the slot (R153). A waiting full reset takes effect when the read took the host port's DONE (R160). -/
def State.readEnd (s : State) (p : Port) (taken : Nat) : State :=
  match (s.port p).slot with
  | .ready r =>
    if r.data.length + 4 ≤ taken then
      if s.resetWaiting && p == .host then s.fullReset else s.setPort p { s.port p with slot := .empty }
    else s
  | _ => s

/-- The catalogue controller's answer to a command that names a record: the checks of R6, then the command's own. -/
def State.withHandle (s : State) (h : Handle) (serve : State → State × Reply) : State × Reply :=
  match s.handleError h with
  | some e => (s, Reply.of e)
  | none => serve s

/-- The answer to a command that names a channel: BAD_CHANNEL above 5 (R152), otherwise the engine's own. R152 does not say when the
port gives BAD_CHANNEL: it stands when the command's row runs (entry 5). -/
def State.withChannel (s : State) (channel : Byte) (serve : Ch → State → State × Reply) : State × Reply :=
  if h : channel.toNat < 6 then serve ⟨channel.toNat, h⟩ s else (s, Reply.of .badChannel)

end Sys2Proof.Machine
end

