-- ==== Sys2Proof/Machine/Announce.lean ====
section
/-! DEFINITION. The announce link: the completion of a frame and the levels of its three outputs (R144). -/

namespace Sys2Proof.Machine

/-- The REFCLK periods of a frame: 80 bits of four (R144). -/
def frameLength : Nat := 320

/-- The REFCLK periods for which AN_FRM stays low after a completion: one AN_CLK period (R144). -/
def frameGap : Nat := 4

/-- The completion of the frame in flight: the link goes to IDLE, and the next frame may begin (R143, R144). -/
def State.frameComplete (s : State) : State :=
  if s.link.isSome then { s with link := none, linkRest := frameGap }.beginFrame else s

/-- AN_FRM: high for the 80 bits of a frame (R144). -/
def State.anFrm (s : State) : Bool := s.linkRest == 0 && s.link.any fun k => k.elapsed < frameLength

/-- AN_DAT: the bits of the frame from bit 79 to bit 0, one per AN_CLK period (R144, R167). On an IDLE link it is low by R144; that it is
low too in the rest after a completion once the next frame has begun is the model's (DESIGN CHOICE, unsafe, entry 19). -/
def State.anDat (s : State) : Bool := s.anFrm && s.link.any fun k => k.frame.getLsbD (79 - k.elapsed / 4)

/-- AN_CLK: one quarter of REFCLK, with its rising edge in the middle of each bit (R144, entry 19). -/
def State.anClk (s : State) : Bool := s.anFrm && s.link.any fun k => 2 ≤ k.elapsed % 4

/-- ANNOUNCE_FRAME_COMPLETE (R144). -/
def execAnnounceFrameComplete (s : State) : Host.Outcome State Fault Refusal := .next s.frameComplete

end Sys2Proof.Machine
end

