-- ==== Sys2Proof/Machine/Matching.lean ====
section
/-! DEFINITION. The window tests, selection and the shortlist (chapter 3). -/

namespace Sys2Proof.Machine

/-- Conditions 6 and 7 of the acquire window: sync width and polarities (R47). -/
def Body.widthAndPolarity (b : Body) (syncWidth : Nat) (lp vp : Option Polarity) : Bool :=
  (match b.syncWidth with
    | some (low, high) => low ≤ syncWidth && syncWidth ≤ high
    | none => true) &&
  (b.linePolarity.isNone || b.linePolarity == lp) && (b.verticalPolarity.isNone || b.verticalPolarity == vp)

/-- Conditions 2 to 7 of the acquire window of a body, with its two tolerances widened (R47, R49). -/
def Body.fits (b : Body) (m : Measurement) (classMask : Byte) (marginTicks marginLines : Nat) : Bool :=
  classMask.getLsbD b.cls && m.scan == some b.scan && dist m.linePeriod b.linePeriod ≤ b.lineTol + marginTicks &&
    dist m.frameLines b.frameLines ≤ b.frameTol + marginLines &&
    b.widthAndPolarity m.syncWidth m.linePolarity m.verticalPolarity

/-- The acquire window test of the record in a slot (R47). -/
def Slot.acquires (v : Slot) (m : Measurement) (classMask : Byte) : Bool := v.state == .live && v.body.fits m classMask 0 0

/-- The line release window (R48). -/
def Body.lineReleaseInside (b : Body) (cfg : Settings) (average : Nat) : Bool :=
  dist average b.linePeriod ≤ b.lineTol + cfg.marginTicks

/-- The expected vertical intervals of a record: the shorter and the longer (R13). -/
def Body.expectedIntervals (b : Body) : Nat × Nat :=
  match b.scan with
  | .progressive => (b.frameLines, b.frameLines)
  | .interlaced => ((b.frameLines - 1) / 2, (b.frameLines + 1) / 2)

/-- The frame release window, about the nearest expected vertical interval (R48). -/
def Body.frameReleaseInside (b : Body) (cfg : Settings) (interval : Nat) : Bool :=
  min (dist interval b.expectedIntervals.1) (dist interval b.expectedIntervals.2) ≤ b.frameTol + cfg.marginLines

/-- The re-verify test (R49): the acquire window with widened tolerances and without the test of slot state. -/
def Body.reverifies (b : Body) (cfg : Settings) (m : Measurement) : Bool :=
  b.fits m cfg.classMask cfg.marginTicks cfg.marginLines

/-- Whether a body is preferred over another on the first three criteria of R50. -/
def Body.preferred (m : Measurement) (a b : Body) : Bool :=
  let pa := dist m.linePeriod a.linePeriod
  let pb := dist m.linePeriod b.linePeriod
  b.priority < a.priority ||
    (a.priority == b.priority &&
      (pa < pb || (pa == pb && dist m.frameLines a.frameLines < dist m.frameLines b.frameLines)))

/-- Selection among slots listed in index order: the preferred one, the earliest among equals (R50). -/
def State.select (s : State) (m : Measurement) : List Nat → Option Nat
  | [] => none
  | n :: l =>
    match s.select m l with
    | none => some n
    | some k => if Body.preferred m (s.slot k).body (s.slot n).body then some k else some n

/-- The match search: selection among the LIVE records that pass the acquire window (R51, R52). -/
def State.search (s : State) (m : Measurement) (classMask : Byte) : Option Nat :=
  s.select m (s.index.filter fun n => (s.slot n).acquires m classMask)

/-- Whether a shortlist entry is usable (R58). -/
def State.usable (s : State) (e : ShortEntry) : Bool := s.currentLive e.handle && (s.record e.handle).rev == e.rev

/-- The quick search of a rematch: selection among the usable entries that pass the acquire window (R53). -/
def State.quickSearch (s : State) (m : Measurement) (classMask : Byte) (l : List ShortEntry) : Option Nat :=
  s.select m (s.index.filter fun n =>
    (l.any fun e => e.handle.slot.toNat == n && s.usable e) && (s.slot n).acquires m classMask)

/-- A slot inserted in a list ordered by distance from a line period, before those as far (R57). -/
def State.insertByDistance (s : State) (p n : Nat) : List Nat → List Nat
  | [] => [n]
  | k :: l =>
    if dist (s.slot n).body.linePeriod p ≤ dist (s.slot k).body.linePeriod p then n :: k :: l
    else k :: s.insertByDistance p n l

/-- Slots ordered by distance from a line period, equal distances in the order given (R57). -/
def State.byDistance (s : State) (p : Nat) : List Nat → List Nat
  | [] => []
  | n :: l => s.insertByDistance p n (s.byDistance p l)

/-- The candidates of a shortlist in index order (R57). -/
def State.shortCandidates (s : State) (p : Nat) (cfg : Settings) (bound : Option Handle) : List Nat :=
  s.index.filter fun n =>
    (s.slot n).state == .live && cfg.classMask.getLsbD (s.slot n).body.cls && bound != some (s.handleOf n) &&
      dist (s.slot n).body.linePeriod p ≤ cfg.neighbourhood

/-- The build of a shortlist about a line period, with a bound record or none (R57). -/
def State.buildShortlist (s : State) (p : Nat) (cfg : Settings) (bound : Option Handle) : List ShortEntry :=
  ((s.byDistance p (s.shortCandidates p cfg bound)).take 3).map fun n => { handle := s.handleOf n, rev := (s.slot n).rev }

end Sys2Proof.Machine
end

