-- ==== Sys2Proof/Machine/Channels.lean ====
section
/-! DEFINITION. The shared operations of a channel engine: its binding, requests, marks, acquisition transitions and
substitute generator (chapters 4 to 7). -/

namespace Sys2Proof.Machine

/-! ## Effective block size (R69) -/

/-- VERIFY_BLOCK scaled down to the largest block size that does not exceed it (R14, R69). -/
def scaleDown (v : Nat) : Nat :=
  if 128 ≤ v then 128 else if 64 ≤ v then 64 else if 32 ≤ v then 32 else if 16 ≤ v then 16 else 8

/-- The holding binding of a channel, if any (R82). -/
def Channel.holding (ch : Channel) : Option Binding :=
  match ch.binding with
  | .holding b => some b
  | _ => none

/-- The handle the channel's binding names, holding or departing (R110). -/
def Channel.bound (ch : Channel) : Option Handle :=
  match ch.binding with
  | .none => none
  | .holding b => some b.handle
  | .departing d => some d.handle

/-- The effective block size (R69). -/
def Channel.effectiveBlock (ch : Channel) : Nat :=
  match ch.binding with
  | .holding b =>
    match b.origin, b.body.verifyBlock with
    | .found, some v => min ch.settings.blockSize (scaleDown v)
    | _, _ => ch.settings.blockSize
  | _ => ch.settings.blockSize

/-- Whether blocks are aligned to vertical markers: in LOCKED, when the effective block size does not exceed the shorter
expected vertical interval of the bound record (R71). -/
def Channel.aligned (ch : Channel) : Bool :=
  ch.acq == .locked &&
    match ch.binding with
    | .holding b => ch.effectiveBlock ≤ b.body.expectedIntervals.1
    | _ => false

/-- Where the next block begins when the effective block size has changed (R70). -/
def Channel.resized (ch : Channel) (before : Nat) : Channel :=
  if ch.effectiveBlock = before || ch.front.block = .off then ch
  else { ch with front := { ch.front with block := if ch.acq = .locked then .awaitVertical else .awaitLine } }

/-! ## Requests and marks -/

/-- The measurement taken from the measurement record at a posting (R43). -/
def Channel.snapshot (ch : Channel) : Measurement :=
  { linePeriod := ch.record.linePeriod, frameLines := ch.record.frameLines, scan := ch.record.scan,
    syncWidth := ch.record.syncWidth, linePolarity := ch.record.linePolarity,
    verticalPolarity := ch.record.verticalPolarity }

/-- A posted match, rematch or shortlist-rebuild request withdrawn; a posted release stays (R44). -/
def Channel.withdraw (ch : Channel) : Channel :=
  match ch.request with
  | some (.release _) => ch
  | _ => { ch with request := none }

/-- Whether a match request is posted. -/
def Channel.matchPosted (ch : Channel) : Bool :=
  match ch.request with
  | some (.acquire _) => true
  | _ => false

/-- A posted release request made quiet: its hold option is removed (R44, R82). -/
def Channel.quietRelease (ch : Channel) : Channel :=
  match ch.request with
  | some (.release _) =>
    { ch with
      request := some (.release .none)
      binding := match ch.binding with
        | .departing d => .departing { d with cause := .quiet }
        | x => x }
  | _ => ch

/-- The holding binding made to depart through a release request with a hold option (R82). -/
def Channel.depart (ch : Channel) (cause : ReleaseCause) (hold : HoldOption) : Channel :=
  match ch.binding with
  | .holding b =>
    { ch with
      binding := .departing { handle := b.handle, origin := b.origin, revSeen := b.revSeen, cause := cause }
      request := some (.release hold)
      reverify := none }
  | _ => ch

/-- The three marks cleared. -/
def Channel.clearMarks (ch : Channel) : Channel := { ch with reverify := none, stale := false, rematch := false }

/-- A match request posted with the snapshot of the moment (R86, R88). -/
def Channel.postMatch (ch : Channel) : Channel := { ch with request := some (.acquire ch.snapshot) }

/-- Completion of a measurement in MEASURING, where its three conditions hold together (R86). -/
def Channel.tryComplete (ch : Channel) : Channel :=
  if ch.acq = .measuring && ch.settings.frameTarget ≤ ch.record.frameRun && ch.front.blockSeen && ch.request.isNone then
    { ch.postMatch with record := { ch.record with valid := true } }
  else ch

/-! ## The substitute generator (R128 to R134, R138) -/

/-- The level of a pin at the active level of a polarity (R133). -/
def Polarity.active (p : Polarity) : Bool := p == .positive

/-- The lines of the shorter field of a body (R132). -/
def Body.shorterField (b : Body) : Nat :=
  match b.scan with
  | .progressive => b.frameLines
  | .interlaced => (b.frameLines - 1) / 2

/-- The frame setting taken from a body (R132). -/
def Body.frameSetting (b : Body) : FrameSetting :=
  { linePeriod := b.linePeriod, frameLines := b.frameLines, scan := b.scan,
    width := min ((b.syncWidth.map Prod.fst).getD 4) (b.shorterField - 1),
    linePolarity := b.linePolarity.getD .positive, verticalPolarity := b.verticalPolarity.getD .positive }

/-- The lines of the field a generator is in (R132). -/
def Generator.fieldLines (g : Generator) : Nat :=
  match g.setting.scan with
  | .progressive => g.setting.frameLines
  | .interlaced => if g.second then (g.setting.frameLines - 1) / 2 else (g.setting.frameLines + 1) / 2

/-- The beginning of a frame: a line marker and a vertical marker at the same tick (R132, R133). -/
def Channel.beginSubFrame (ch : Channel) (setting : FrameSetting) : Channel :=
  { ch with
    generator := some { setting := setting, phase := .generating, second := false, line := 0, tick := 0 }
    subLm := setting.linePolarity.active
    subVm := setting.verticalPolarity.active }

/-- A frame setting taken: the frame begins at once, or after both pins have rested for one line period at their new inactive
levels, when a polarity differs from the last-used one (R133, R134). -/
def Channel.takeSetting (ch : Channel) (setting : FrameSetting) : Channel :=
  let ch1 := { ch with lastLm := setting.linePolarity, lastVm := setting.verticalPolarity }
  if setting.linePolarity = ch.lastLm && setting.verticalPolarity = ch.lastVm then ch1.beginSubFrame setting
  else
    { ch1 with
      generator := some { setting := setting, phase := .resting, second := false, line := 0, tick := 0 }
      subLm := !setting.linePolarity.active
      subVm := !setting.verticalPolarity.active }

/-- The end of a hold at the generator: QUIET, its setting and position discarded, the hold-limit timer stopped, a pending
re-verify mark cleared, the pins at the inactive levels of their last-used polarities (R133, R138). -/
def Channel.endHold (ch : Channel) : Channel :=
  if ch.generator.isSome then
    { ch with
      generator := none, holdLimit := none, reverify := none, subLm := !ch.lastLm.active, subVm := !ch.lastVm.active }
  else ch

/-! ## Acquisition transitions -/

/-- What is in progress in the front end abandoned, learned polarities kept (R62, R78, R96). -/
def FrontEnd.abandon (f : FrontEnd) : FrontEnd :=
  { f with
    period := none, prevPeriod := none, block := .off, blockDone := none, prevAverage := none, blockSeen := false,
    interval := none, prevInterval := none, width := none }

/-- Entry to SEEKING from any state but OFF, with the partial clearing of R78. -/
def Channel.enterSeeking (ch : Channel) : Channel :=
  { ch with
    acq := .seeking
    record := { MeasureRecord.cleared with
      linePolarity := ch.front.lmPolarity, verticalPolarity := ch.front.vmPolarity }
    front := ch.front.abandon
    stale := false, rematch := false, lineLoss := none, verticalLoss := none }

/-- The start of block formation and of the frame run, on entry to MEASURING from SEEKING (R84) and to FORCED from SEEKING or
FROZEN (R97). -/
def Channel.startForming (ch : Channel) : Channel :=
  { ch with
    record := { ch.record with frameRun := 0 }
    front := { ch.front with block := .awaitLine, prevAverage := none, blockSeen := false, prevInterval := none } }

/-- Entry to MEASURING from SEEKING (R84). -/
def Channel.enterMeasuring (ch : Channel) : Channel :=
  { ch.startForming with acq := .measuring, lineLoss := loadTimer ch.settings.lineLoss }

/-- Entry to LOCKED (R89). -/
def Channel.enterLocked (ch : Channel) : Channel :=
  { ch with
    acq := .locked
    record := { ch.record with outBlockRun := 0, outFrameRun := 0 }
    front := { ch.front with block := .awaitVertical }
    verticalLoss := loadTimer ch.settings.verticalLoss }

/-- Entry to FROZEN (R96). -/
def Channel.enterFrozen (ch : Channel) : Channel :=
  { ch with
    acq := .frozen, front := ch.front.abandon, lineLoss := none, verticalLoss := none, stale := false, rematch := false }

/-- Entry to DRIFTING from LOCKED: a rematch is posted, or kept as the rematch mark while the slot is occupied (R94). The posting
clears a rematch mark, which stood for it (R105, R118). -/
def Channel.enterDrifting (ch : Channel) : Channel :=
  let ch1 := { ch with acq := .drifting, verticalLoss := none }
  if ch.request.isNone then { ch1 with request := some (.rematch ch.snapshot), rematch := false }
  else { ch1 with rematch := true }

/-- The transition of a RELEASED rematch result, and of a forced release: MEASURING without a binding, valid clear, frame run
0, no predecessor, the marks cleared and the shortlist empty (R95, R125). -/
def Channel.enterReleased (ch : Channel) : Channel :=
  let ch1 := { ch.endHold.clearMarks with
    acq := .measuring, binding := .none, shortlist := [], verticalLoss := none
    record := { ch.record with valid := false, frameRun := 0 }
    front := { ch.front with prevInterval := none, blockSeen := false } }
  ch1.resized ch.effectiveBlock

/-- Steps 1 to 5 of STOP CHANNEL, which REARM CHANNEL and a channel reset share (R101, R102, R108). -/
def Channel.halt (ch : Channel) : Channel :=
  { (ch.withdraw.quietRelease.depart .quiet .none).endHold.clearMarks with
    shortlist := [], lineLoss := none, verticalLoss := none }

/-- STOP CHANNEL at a channel that is not OFF: steps 1 to 7 but for the hand-on (R101). -/
def Channel.stop (ch : Channel) : Channel :=
  { ch.halt with acq := .off, record := MeasureRecord.cleared, front := FrontEnd.cleared }

/-- REARM CHANNEL at a channel that is not OFF, but for the hand-on (R102). -/
def Channel.rearm (ch : Channel) : Channel := ch.halt.enterSeeking

/-- The hold option that a release posted on input loss carries (R129). -/
def Channel.holdOption (ch : Channel) : HoldOption :=
  match ch.settings.holdPolicy with
  | .none => .none
  | .last => .last
  | .fixed => .fixed ch.settings.holdRecord

/-- Input loss at the channel, but for its flags and its hand-on (R99, R131). -/
def Channel.loseInput (ch : Channel) : Channel :=
  let ch1 := ch.withdraw
  let ch2 :=
    if ch1.request.isNone then
      if ch1.holding.isSome then ch1.depart .inputLoss ch1.holdOption
      else if ch1.settings.holdPolicy = .fixed then { ch1 with request := some (.release ch1.holdOption) }
      else ch1
    else ch1
  { ch2.endHold.enterSeeking with reverify := none }

/-- One more out-of-window block, up to the block release run (R90). -/
def Channel.countOutBlock (ch : Channel) : Channel :=
  { ch with record := { ch.record with outBlockRun := min (ch.record.outBlockRun + 1) ch.settings.blockReleaseRun } }

/-- One more out-of-window interval, up to the frame release run (R91). -/
def Channel.countOutFrame (ch : Channel) : Channel :=
  { ch with record := { ch.record with outFrameRun := min (ch.record.outFrameRun + 1) ch.settings.frameReleaseRun } }

/-- Whether the out-block run has reached its target (R90). -/
def Channel.blockRunReached (ch : Channel) : Bool := ch.settings.blockReleaseRun ≤ ch.record.outBlockRun

/-- Whether the out-frame run has reached its target (R91). -/
def Channel.frameRunReached (ch : Channel) : Bool := ch.settings.frameReleaseRun ≤ ch.record.outFrameRun

/-- An amendment taken up: the binding's body copy and revision seen become the pending ones (R112). -/
def Channel.takeUp (ch : Channel) (body : Body) (rev : Byte) : Channel :=
  match ch.binding with
  | .holding b => { ch with binding := .holding { b with body := body, revSeen := rev }, reverify := none }
  | _ => { ch with reverify := none }

end Sys2Proof.Machine
end

