-- ==== Sys2Proof/Machine/FrontEnd.lean ====
section
/-! DEFINITION. The marker front end and what the acquisition machine does at its events, and the loss timers (chapters 4
and 5). -/

namespace Sys2Proof.Machine

/-! ## Polarity detection (R63 to R65) -/

/-- The opposite polarity. -/
def Polarity.opposite : Polarity → Polarity
  | .positive => .negative
  | .negative => .positive

/-- What a completed cycle decides: POSITIVE when high for less than half of it, NEGATIVE for more, nothing for exactly half
(R63, R64). -/
def decideCycle (high cycle : Nat) : Option Polarity :=
  if 2 * high < cycle then some .positive else if cycle < 2 * high then some .negative else none

/-- The opposite decided cycles that make a polarity change: four of LM, two of VM (R65). -/
def changeTarget : SyncInput → Nat
  | .lm => 4
  | .vm => 2

/-- The detected polarity of an input and its count of opposite decided cycles. -/
def FrontEnd.detector (f : FrontEnd) : SyncInput → Option Polarity × Nat
  | .lm => (f.lmPolarity, f.lmOpposite)
  | .vm => (f.vmPolarity, f.vmOpposite)

/-- The detector of an input set. -/
def FrontEnd.setDetector (f : FrontEnd) (input : SyncInput) (p : Option Polarity) (count : Nat) : FrontEnd :=
  match input with
  | .lm => { f with lmPolarity := p, lmOpposite := count }
  | .vm => { f with vmPolarity := p, vmOpposite := count }

/-- The measurement record's polarity of an input set, but in FROZEN, where the record is frozen (R62, R75). -/
def Channel.recordPolarity (ch : Channel) (input : SyncInput) (p : Polarity) : Channel :=
  if ch.acq = .frozen then ch
  else match input with
    | .lm => { ch with record := { ch.record with linePolarity := some p } }
    | .vm => { ch with record := { ch.record with verticalPolarity := some p } }

/-- A completed cycle of an input (R63, R64, R65). A count that has reached its target waits for its polarity change
(entry 5). -/
def Channel.cycleComplete (ch : Channel) (input : SyncInput) (high cycle : Nat) : Channel :=
  if ch.acq = .off then ch
  else match decideCycle high cycle, ch.front.detector input with
    | none, _ => ch
    | some d, (none, _) => { ch with front := ch.front.setDetector input (some d) 0 }.recordPolarity input d
    | some d, (some p, count) =>
      if changeTarget input ≤ count then ch
      else { ch with front := ch.front.setDetector input (some p) (if d = p then 0 else count + 1) }

/-- The block in progress discarded (R70): the next one begins at the next line marker, but in LOCKED with alignment at the
first line marker after the next vertical marker (R71). Where no block is in progress nothing is discarded: one that awaits its
first line marker begins there, in LOCKED with alignment too, which R71 leaves open (entry 30). -/
def Channel.discardBlock (ch : Channel) : Channel :=
  match ch.front.block with
  | .running _ _ _ => { ch with front := { ch.front with block := if ch.aligned then .awaitVertical else .awaitLine } }
  | _ => ch

/-- What a recognized polarity change abandons in the front end (R65). -/
def Channel.abandonInput (ch : Channel) (input : SyncInput) : Channel :=
  match input with
  | .lm =>
    let ch1 := ch.discardBlock
    { ch1 with
      front := { ch1.front with period := none, prevPeriod := none }
      record := if ch.acq = .frozen then ch.record else { ch.record with stabilityRun := 0 } }
  | .vm =>
    { ch with
      front := { ch.front with interval := none, width := none, prevInterval := none }
      record := if ch.acq = .frozen then ch.record else { ch.record with frameRun := 0 } }

/-- Whether input loss and a polarity change take a channel to SEEKING in this state (R98, R100). -/
def Acq.watches : Acq → Bool
  | .measuring | .unmatched | .locked | .drifting => true
  | _ => false

/-- A polarity change at the acquisition machine, but for its flag and hand-on (R100). -/
def Channel.losePolarity (ch : Channel) : Channel :=
  let ch1 := ch.withdraw
  let ch2 := if ch1.request.isNone && ch1.holding.any fun b => b.origin == .found then ch1.depart .polarityChange .none else ch1
  ch2.enterSeeking

/-- A polarity change of an input recognized (R65, R100). -/
def State.changePolarity (s : State) (c : Ch) (input : SyncInput) : State :=
  let ch := s.ch c
  match ch.front.detector input with
  | (some p, count) =>
    if ch.acq != .off && changeTarget input ≤ count then
      let ch1 := ({ ch with front := ch.front.setDetector input (some p.opposite) 0 }.recordPolarity input
        p.opposite).abandonInput input
      if ch.acq.watches then
        ((s.setCh c ch1.losePolarity).setFlagIf (ch1.withdraw.request.isNone && ch.holding.any fun b => b.origin == .found) c
          .lockLost).handOn c
      else s.setCh c ch1
    else s
  | _ => s

/-! ## Line periods and blocks (R66 to R71, R84, R90) -/

/-- Entry to DRIFTING, with its hand-on (R94). -/
def State.drift (s : State) (c : Ch) : State := (s.setCh c (s.ch c).enterDrifting).handOn c

/-- A block that is to begin at this line marker begins, with the effective block size of the moment (R68). -/
def Channel.beginBlock (ch : Channel) : Channel :=
  match ch.front.block with
  | .awaitLine => { ch with front := { ch.front with block := .running ch.effectiveBlock 0 0 } }
  | _ => ch

/-- A line period in range enters the block in progress at the line marker that ends it (R68): the last one completes the
block, whose average waits for its block boundary (entry 5), and the next block begins. -/
def Channel.feedBlock (ch : Channel) (period : Nat) : Channel :=
  match ch.front.block with
  | .running size count sum =>
    if size ≤ count + 1 then
      { ch with front := { ch.front with
        block := .running ch.effectiveBlock 0 0, blockDone := some ((sum + period) / size) } }
    else { ch with front := { ch.front with block := .running size (count + 1) (sum + period) } }
  | _ => ch.beginBlock

/-- The stability run after a line period in range (R67). -/
def Channel.feedStability (ch : Channel) (period : Nat) : Channel :=
  let run :=
    match ch.front.prevPeriod with
    | some q => if dist period q ≤ ch.settings.stabilityWindow then min (ch.record.stabilityRun + 1) 255 else 0
    | none => 0
  { ch with record := { ch.record with stabilityRun := run }, front := { ch.front with prevPeriod := some period } }

/-- A line period in range formed, with the exit from SEEKING when the stability run reaches its target (R67, R68, R84). -/
def Channel.linePeriod (ch : Channel) (period : Nat) : Channel :=
  let ch1 := (ch.feedStability period).feedBlock period
  if ch1.acq = .seeking && ch1.settings.stabilityTarget ≤ ch1.record.stabilityRun then ch1.enterMeasuring else ch1

/-- An out-of-range line period recognized: stability run 0, no previous line period, the block discarded (R66, R67, R70). -/
def Channel.lineOutOfRange (ch : Channel) : Channel :=
  let ch1 := ch.discardBlock
  { ch1 with
    record := { ch1.record with stabilityRun := 0 }
    front := { ch1.front with prevPeriod := none } }

/-- An out-of-range line period at the acquisition machine: in LOCKED it counts as one out-of-window block (R90). -/
def State.outOfRangeLine (s : State) (c : Ch) (ch : Channel) : State :=
  if ch.acq = .locked then
    let ch1 := ch.countOutBlock
    if ch1.blockRunReached then (s.setCh c ch1).drift c else s.setCh c ch1
  else s.setCh c ch

/-- Whether the front end recognizes markers in this state: not in OFF and not in FROZEN (R62). -/
def Acq.forms (a : Acq) : Bool := a != .off && a != .frozen

/-- What every line marker does: it reloads the line-loss timer where that runs (R98), counts in the vertical interval and the
sync width in progress (R72, R74), and begins a line period (R66). -/
def Channel.markLine (ch : Channel) : Channel :=
  { ch with
    lineLoss := if ch.acq = .forced then ch.lineLoss else loadTimer ch.settings.lineLoss
    front := { ch.front with
      period := some 0, interval := ch.front.interval.map (· + 1), width := ch.front.width.map fun w => min (w + 1) 4095 } }

/-- A line marker (R66). -/
def State.lineMarker (s : State) (c : Ch) (ticks : Nat) : State :=
  let ch := s.ch c
  if ch.acq.forms && ch.front.lmPolarity.isSome then
    match ch.front.period with
    | none => s.setCh c ch.markLine.beginBlock
    | some k =>
      let p := k + ticks
      if 64 ≤ p && p ≤ 65535 then s.setCh c (ch.markLine.linePeriod p)
      else s.outOfRangeLine c ch.markLine.lineOutOfRange.beginBlock
  else s

/-- A line period in progress whose count passes 65535 (R66). -/
def State.longLine (s : State) (c : Ch) : State :=
  let ch := s.ch c
  if ch.acq.forms && ch.front.period.isSome then
    s.outOfRangeLine c { ch with front := { ch.front with period := none } }.lineOutOfRange
  else s

/-! ## Block boundaries (R85, R88, R92, R93) -/

/-- The block average handed on: it becomes the record's line period and the average the next one is compared with (R68). -/
def Channel.takeAverage (ch : Channel) (average : Nat) : Channel :=
  { ch with
    record := { ch.record with linePeriod := average }
    front := { ch.front with blockDone := none, prevAverage := some average, blockSeen := true } }

/-- Whether a block average loses stability against the previous one (R85). -/
def Channel.losesStability (ch : Channel) (average : Nat) : Bool :=
  ch.front.prevAverage.any fun q => ch.settings.stabilityWindow < dist average q

/-- Step 1 of a block boundary in LOCKED: the block is evaluated (R90, R92). -/
def Channel.evaluateBlock (ch : Channel) (average : Nat) : Channel :=
  if ch.holding.any fun b => b.body.lineReleaseInside ch.settings average then
    { ch with record := { ch.record with outBlockRun := 0 } }
  else ch.countOutBlock

/-- Step 2 of a block boundary in LOCKED: the re-verify (R92, R93). -/
def State.reverifyStep (s : State) (c : Ch) : State :=
  let ch := s.ch c
  match ch.reverify with
  | none => s
  | some (body, rev) =>
    if body.reverifies ch.settings ch.snapshot then
      ((s.setCh c ((ch.takeUp body rev).resized ch.effectiveBlock)).setFlag c .recordAmended).handOn c
    else (s.setCh c { ch with reverify := none }).drift c

/-- Steps 3 to 5 of a block boundary in LOCKED (R92). -/
def State.markSteps (s : State) (c : Ch) (average : Nat) : State :=
  let ch := s.ch c
  if ch.acq != .locked then s
  else if ch.blockRunReached then s.drift c
  else if ch.rematch then (s.setCh c { ch with rematch := false }).drift c
  else if ch.stale && ch.request.isNone then s.setCh c { ch with stale := false, request := some (.rebuild average) }
  else s

/-- A block boundary in UNMATCHED, stability kept: the shortlist stale mark is cleared, and the rematch mark is acted on when
the slot is empty (R88). -/
def Channel.unmatchedBoundary (ch : Channel) : Channel :=
  let ch1 := { ch with stale := false }
  if ch1.rematch && ch1.request.isNone then { ch1 with rematch := false }.postMatch else ch1

/-- A block boundary, where a completed block waits for it (R68, R85, R88, R92, R94, R97). -/
def State.blockBoundary (s : State) (c : Ch) : State :=
  let ch := s.ch c
  match ch.front.blockDone with
  | none => s
  | some a =>
    let ch1 := ch.takeAverage a
    match ch.acq with
    | .measuring =>
      if ch.losesStability a then (s.setCh c ch1.withdraw.enterSeeking).handOn c else s.setCh c ch1.tryComplete
    | .unmatched =>
      if ch.losesStability a then (s.setCh c ch1.withdraw.enterSeeking).handOn c else s.setCh c ch1.unmatchedBoundary
    | .locked => ((s.setCh c (ch1.evaluateBlock a)).reverifyStep c).markSteps c a
    | .drifting => s.setCh c ch1
    | .forced => s.setCh c { ch1 with stale := false }
    | .off | .seeking | .frozen => s.setCh c { ch with front := { ch.front with blockDone := none } }

/-! ## Vertical intervals and sync width (R72 to R74, R91) -/

/-- Whether a vertical interval is in range (R72). -/
def intervalInRange (v : Nat) : Bool := 1 ≤ v && v ≤ 4095

/-- Whether two intervals agree (R73). -/
def intervalsAgree (a b : Nat) : Bool := dist a b ≤ 1

/-- The measured scan and frame lines of an agreeing pair (R73). -/
def agreedFrame (a b : Nat) : Scan × Nat := if a = b then (.progressive, a) else (.interlaced, a + b)

/-- The frame run after a pair, against the record's scan as it stood (R73). -/
def nextFrameRun (agree : Bool) (scan : Scan) (recorded : Option Scan) (run : Nat) : Nat :=
  if !agree then 0 else if recorded = some scan || run = 0 then min (run + 1) 255 else 1

/-- A vertical interval completed: compared with its predecessor, which it becomes when it is in range (R72, R73). The frame run
is held at 0 in SEEKING. -/
def Channel.closeInterval (ch : Channel) (v : Nat) : Channel :=
  if intervalInRange v then
    let ch1 :=
      match ch.front.prevInterval with
      | none => ch
      | some q =>
        let agree := intervalsAgree v q
        let (scan, lines) := agreedFrame v q
        let run := if ch.acq == Acq.seeking then 0 else nextFrameRun agree scan ch.record.scan ch.record.frameRun
        if agree then { ch with record := { ch.record with frameRun := run, scan := some scan, frameLines := lines } }
        else { ch with record := { ch.record with frameRun := run } }
    { ch1 with front := { ch1.front with prevInterval := some v } }
  else { ch with record := { ch.record with frameRun := 0 } }

/-- The block in progress at a vertical marker: discarded in LOCKED with alignment (R71); a block that waited for the vertical
marker begins at the next line marker (R70). -/
def Channel.alignBlock (ch : Channel) : Channel :=
  match ch.front.block with
  | .running _ _ _ => if ch.aligned then { ch with front := { ch.front with block := .awaitLine } } else ch
  | .awaitVertical => { ch with front := { ch.front with block := .awaitLine } }
  | _ => ch

/-- A vertical interval at the acquisition machine: evaluated in LOCKED (R91), and an event of completion in MEASURING
(R86). -/
def State.takeInterval (s : State) (c : Ch) (v : Nat) : State :=
  let ch := s.ch c
  if ch.acq = .locked then
    if intervalInRange v && ch.holding.any fun b => b.body.frameReleaseInside ch.settings v then
      s.setCh c { ch with record := { ch.record with outFrameRun := 0 } }
    else
      let ch1 := ch.countOutFrame
      if ch1.frameRunReached then (s.setCh c ch1).drift c else s.setCh c ch1
  else s.setCh c ch.tryComplete

/-- What every vertical marker does: it aligns the block, begins a vertical interval and a sync width count, and reloads the
vertical-loss timer in LOCKED (R71, R72, R74, R91). -/
def Channel.markVertical (ch : Channel) : Channel :=
  let ch1 := ch.alignBlock
  { ch1 with
    front := { ch1.front with interval := some 0, width := some 0 }
    verticalLoss := if ch.acq = .locked then loadTimer ch.settings.verticalLoss else ch.verticalLoss }

/-- A vertical marker (R72). -/
def State.verticalMarker (s : State) (c : Ch) : State :=
  let ch := s.ch c
  if ch.acq.forms && ch.front.vmPolarity.isSome then
    match ch.front.interval with
    | none => s.setCh c ch.markVertical
    | some v => (s.setCh c (ch.closeInterval v).markVertical).takeInterval c v
  else s

/-- A vertical interval in progress whose count has passed 4095 (R72, R91). -/
def State.longInterval (s : State) (c : Ch) : State :=
  let ch := s.ch c
  match ch.front.interval with
  | some v =>
    if ch.acq.forms && 4095 < v then
      (s.setCh c { (ch.closeInterval v) with front := { ch.front with interval := none } }).takeInterval c v
    else s
  | none => s

/-- VM leaving its active level (R74). -/
def Channel.closeWidth (ch : Channel) : Channel :=
  match ch.front.width with
  | some w =>
    if ch.acq.forms then { ch with record := { ch.record with syncWidth := w }, front := { ch.front with width := none } } else ch
  | none => ch

/-! ## Loss timers (R91, R98, R99) -/

/-- Input loss (R99, R131): INPUT_LOST, and HOLD_ENDED under hold. -/
def State.inputLoss (s : State) (c : Ch) : State :=
  let ch := s.ch c
  (((s.setCh c ch.loseInput).setFlag c .inputLost).setFlagIf ch.generator.isSome c .holdEnded).handOn c

/-- The expiry of a running line-loss timer (R98). -/
def State.lineLossExpires (s : State) (c : Ch) : State :=
  let ch := s.ch c
  if ch.lineLoss.isSome then
    if ch.acq.watches then s.inputLoss c else s.setCh c { ch with lineLoss := none }
  else s

/-- The expiry of a running vertical-loss timer (R91). -/
def State.verticalLossExpires (s : State) (c : Ch) : State :=
  let ch := s.ch c
  if ch.verticalLoss.isSome then
    if ch.acq = .locked then
      let ch1 := { ch.countOutFrame with verticalLoss := loadTimer ch.settings.verticalLoss }
      if ch1.frameRunReached then (s.setCh c ch1).drift c else s.setCh c ch1
    else s.setCh c { ch with verticalLoss := none }
  else s

/-! ## The rows -/

/-- LM_CYCLE_COMPLETE (R63, R65). -/
def execLmCycleComplete (c : Ch) (high cycle : Nat) (s : State) : Host.Outcome State Fault Refusal :=
  .next (s.setCh c ((s.ch c).cycleComplete .lm high cycle))

/-- VM_CYCLE_COMPLETE (R64, R65). -/
def execVmCycleComplete (c : Ch) (high cycle : Nat) (s : State) : Host.Outcome State Fault Refusal :=
  .next (s.setCh c ((s.ch c).cycleComplete .vm high cycle))

/-- POLARITY_CHANGE (R65, R100). -/
def execPolarityChange (c : Ch) (input : SyncInput) (s : State) : Host.Outcome State Fault Refusal :=
  .next (s.changePolarity c input)

/-- LINE_MARKER (R66). -/
def execLineMarker (c : Ch) (ticks : Nat) (s : State) : Host.Outcome State Fault Refusal := .next (s.lineMarker c ticks)

/-- LONG_LINE_PERIOD (R66). -/
def execLongLinePeriod (c : Ch) (s : State) : Host.Outcome State Fault Refusal := .next (s.longLine c)

/-- BLOCK_BOUNDARY (R92). -/
def execBlockBoundary (c : Ch) (s : State) : Host.Outcome State Fault Refusal := .next (s.blockBoundary c)

/-- VERTICAL_MARKER (R72). -/
def execVerticalMarker (c : Ch) (s : State) : Host.Outcome State Fault Refusal := .next (s.verticalMarker c)

/-- LONG_VERTICAL_INTERVAL (R72). -/
def execLongVerticalInterval (c : Ch) (s : State) : Host.Outcome State Fault Refusal := .next (s.longInterval c)

/-- SYNC_WIDTH_COMPLETE (R74). -/
def execSyncWidthComplete (c : Ch) (s : State) : Host.Outcome State Fault Refusal := .next (s.setCh c (s.ch c).closeWidth)

/-- LINE_LOSS_EXPIRY (R98). -/
def execLineLossExpiry (c : Ch) (s : State) : Host.Outcome State Fault Refusal := .next (s.lineLossExpires c)

/-- VERTICAL_LOSS_EXPIRY (R91). -/
def execVerticalLossExpiry (c : Ch) (s : State) : Host.Outcome State Fault Refusal := .next (s.verticalLossExpires c)

end Sys2Proof.Machine
end

