-- ==== Sys2Proof/Machine/Substitute.lean ====
section
/-! DEFINITION. The substitute generator's events and the hold limit (R132 to R136). -/

namespace Sys2Proof.Machine

/-- The line that begins in the field a generator is in: a line marker, and the return of SUB_VM at the line after its width
(R132, R133). -/
def Channel.beginSubLine (ch : Channel) (g : Generator) : Channel :=
  { ch with
    generator := some { g with line := g.line + 1, tick := 0 }
    subLm := ch.lastLm.active
    subVm := if g.setting.width ≤ g.line + 1 then !ch.lastVm.active else ch.subVm }

/-- The second field of an interlaced frame begins: a line marker and a vertical marker (R132). -/
def Channel.beginSecondField (ch : Channel) (g : Generator) : Channel :=
  { ch with
    generator := some { g with second := true, line := 0, tick := 0 }
    subLm := ch.lastLm.active
    subVm := ch.lastVm.active }

/-- P ticks after the last line began (R132), or after the rest before a frame began (R134): the next line begins, or the
generator stands at a substitute frame start, whose event is SUBSTITUTE_FRAME_START (entry 5). -/
def Channel.substituteLine (ch : Channel) : Channel :=
  match ch.generator with
  | none => ch
  | some g =>
    match g.phase with
    | .frameDue => ch
    | .resting => { ch with generator := some { g with phase := .frameDue } }
    | .generating =>
      if g.line + 1 < g.fieldLines then ch.beginSubLine g
      else if g.setting.scan = .interlaced && !g.second then ch.beginSecondField g
      else { ch with generator := some { g with phase := .frameDue } }

/-- P/16 ticks after a line marker, SUB_LM returns to its inactive level (R133). -/
def Channel.endSubPulse (ch : Channel) : Channel :=
  match ch.generator with
  | none => ch
  | some g =>
    match g.phase with
    | .generating =>
      { ch with
        generator := some { g with tick := max g.tick (g.setting.linePeriod / 16) }, subLm := !ch.lastLm.active }
    | _ => ch

/-- A substitute frame start of a RUNNING generator: a pending amendment is adopted (R134), and the frame begins. -/
def State.substituteFrameStart (s : State) (c : Ch) : State :=
  let ch := s.ch c
  match ch.generator, ch.reverify with
  | none, _ => s
  | some g, none => s.setCh c (ch.beginSubFrame g.setting)
  | some _, some (body, rev) =>
    ((s.setCh c ((ch.takeUp body rev).takeSetting body.frameSetting)).setFlag c .recordAmended).handOn c

/-- The expiry of a running hold-limit timer at the channel, but for its flag and hand-on (R136): a withdrawn match is kept in
UNMATCHED as the rematch mark. -/
def Channel.limitHold (ch : Channel) : Channel :=
  let ch1 := { ch.withdraw with rematch := ch.rematch || (ch.acq == Acq.unmatched && ch.matchPosted) }
  (ch1.depart .holdLimit .none).endHold

/-- The expiry of a running hold-limit timer (R136). -/
def State.holdLimitExpires (s : State) (c : Ch) : State :=
  let ch := s.ch c
  if ch.holdLimit.isSome then ((s.setCh c ch.limitHold).setFlag c .holdEnded).handOn c else s

/-- SUBSTITUTE_FRAME_START (R134). -/
def execSubstituteFrameStart (c : Ch) (s : State) : Host.Outcome State Fault Refusal := .next (s.substituteFrameStart c)

/-- SUBSTITUTE_LINE (R132). -/
def execSubstituteLine (c : Ch) (s : State) : Host.Outcome State Fault Refusal := .next (s.setCh c (s.ch c).substituteLine)

/-- SUB_LM_PULSE_END (R133). -/
def execSubLmPulseEnd (c : Ch) (s : State) : Host.Outcome State Fault Refusal := .next (s.setCh c (s.ch c).endSubPulse)

/-- HOLD_LIMIT_EXPIRY (R136). -/
def execHoldLimitExpiry (c : Ch) (s : State) : Host.Outcome State Fault Refusal := .next (s.holdLimitExpires c)

end Sys2Proof.Machine
end

