-- ==== Sys2Proof/Machine/Clock.lean ====
section
/-! DEFINITION. What the part does of its own accord: the events it raises itself, and one rising edge of REFCLK (R59, R60,
R144; entries 1, 5 and 10). -/

namespace Sys2Proof.Machine

/-! ## The work the part has waiting for itself -/

/-- An event where a condition holds. -/
def eventIf (due : Bool) (i : Instr) : Option Instr := if due then some i else none

/-- Whether the opposite decided cycles of an input make a polarity change (R65). -/
def Channel.polarityDue (ch : Channel) (input : SyncInput) : Bool :=
  ch.acq != .off && (ch.front.detector input).1.isSome && changeTarget input ≤ (ch.front.detector input).2

/-- A timer none of whose units remain (R60). -/
def timerDue (t : Option Timer) : Bool := t.any fun t => t.units == 0

/-- Whether a substitute line, or the rest before a frame, has lasted its P ticks (R132, R134). -/
def Generator.lineDue (g : Generator) : Bool := g.phase != .frameDue && g.setting.linePeriod ≤ g.tick

/-- Whether SUB_LM has stood at its active level for P/16 ticks (R133). -/
def Channel.pulseDue (ch : Channel) : Bool :=
  ch.generator.any fun g =>
    g.phase == .generating && g.setting.linePeriod / 16 ≤ g.tick && ch.subLm == ch.lastLm.active

/-- The event a channel's engine takes next of its own accord. -/
def Channel.ownEvent (ch : Channel) (c : Ch) : Option Instr :=
  ([eventIf (ch.polarityDue .lm) (.polarityChange c .lm),
    eventIf (ch.polarityDue .vm) (.polarityChange c .vm),
    eventIf (ch.acq.forms && ch.front.interval.any fun v => 4095 < v) (.longVerticalInterval c),
    eventIf ch.front.blockDone.isSome (.blockBoundary c),
    eventIf (ch.acq.forms && ch.front.period.any fun p => 65535 < p) (.longLinePeriod c),
    eventIf (timerDue ch.lineLoss) (.lineLossExpiry c),
    eventIf (timerDue ch.verticalLoss) (.verticalLossExpiry c),
    eventIf (timerDue ch.holdLimit) (.holdLimitExpiry c),
    eventIf (ch.generator.any fun g => g.phase == .frameDue) (.substituteFrameStart c),
    eventIf ch.pulseDue (.subLmPulseEnd c),
    eventIf (ch.generator.any fun g => g.lineDue) (.substituteLine c)] : List (Option Instr)).findSome? id

/-- The row of a port's command in EXECUTING that a block other than the controller takes (R152). -/
def State.portEvent (s : State) (p : Port) : Option Instr :=
  match (s.port p).slot with
  | .executing tag cmd => if cmd.byController then none else some (cmd.row p tag)
  | _ => none

/-- The row of a channel's posted request (R40). -/
def Request.row (r : Request) (c : Ch) : Instr :=
  match r with
  | .acquire _ => .matchRequest c
  | .rematch _ => .rematchRequest c
  | .rebuild _ => .shortlistRebuild c
  | .release _ => .releaseRequest c

/-- The row of the request that a requester has posted. -/
def State.requestRow (s : State) (r : Fin 8) : Option Instr :=
  let ofPort (p : Port) : Option Instr :=
    match (s.port p).slot with
    | .executing tag cmd => some (cmd.row p tag)
    | _ => none
  if r = 0 then ofPort .host
  else if r = 1 then ofPort .monitor
  else if h : r.val - 2 < 6 then (s.ch ⟨r.val - 2, h⟩).request.map fun q => q.row ⟨r.val - 2, h⟩
  else none

/-- The expiry the controller serves next between grants: a lease, then a retire timer (R42). -/
def State.controllerExpiry (s : State) : Option Instr :=
  match ([0, 1, 2, 3] : List (Fin 4)).find? fun id => (s.edit id).any fun e => e.lease.units == 0 with
  | some id => some (.leaseExpiry id)
  | none => (s.retiring.find? fun e => e.timer.units == 0).map fun e => .retireTimerExpiry e.handle

/-- Whether the frame in flight has sent its 80th bit (R144). -/
def State.frameSent (s : State) : Bool := s.linkRest == 0 && s.link.any fun k => frameLength ≤ k.elapsed

/-- The event the part takes next of its own accord, in a fixed order (entry 10): the channels' own events, the commands in
EXECUTING that no grant holds back, the completion of a frame, the controller's expiries, and the arbiter's grant. -/
def State.ownWork (s : State) : Option Instr :=
  ([channels.findSome? fun c => (s.ch c).ownEvent c,
    s.portEvent .host,
    s.portEvent .monitor,
    eventIf s.frameSent .announceFrameComplete,
    s.controllerExpiry,
    s.arbiter.bind s.requestRow] : List (Option Instr)).findSome? id

/-! ## One rising edge of REFCLK -/

/-- The REFCLK periods of the 100 µs unit (R60). -/
def TimeBase.unit100us (t : TimeBase) : Nat := t.refclk / 10

/-- The REFCLK periods of the 1 ms unit (R60). -/
def TimeBase.unit1ms (t : TimeBase) : Nat := t.refclk

/-- The REFCLK periods of the 10 ms unit (R60). -/
def TimeBase.unit10ms (t : TimeBase) : Nat := 10 * t.refclk

/-- The REFCLK periods of the 100 ms unit (R60). -/
def TimeBase.unit100ms (t : TimeBase) : Nat := 100 * t.refclk

/-- A running timer at an edge: a unit ends when its last REFCLK period has passed (R60). A timer with no unit left stands
until its expiry is taken. -/
def Timer.edge (t : Timer) (unit : Nat) : Timer :=
  if t.units = 0 then t
  else if unit ≤ t.elapsed + 1 then { units := t.units - 1, elapsed := 0 }
  else { t with elapsed := t.elapsed + 1 }

/-- Whether a tick boundary falls on the next edge (R59). -/
def TimeBase.tickNext (t : TimeBase) : Bool := t.divider ≤ t.phase + 1

/-- The time base at an edge (R59). -/
def TimeBase.edge (t : TimeBase) : TimeBase := { t with phase := if t.tickNext then 0 else t.phase + 1 }

/-- A channel at a tick boundary: the line period in progress counts it (R66), and so does the generator's line (R132). -/
def Channel.tick (ch : Channel) : Channel :=
  { ch with
    front := { ch.front with period := ch.front.period.map (· + 1) }
    generator := ch.generator.map fun g => { g with tick := g.tick + 1 } }

/-- A channel at an edge: its three timers (R91, R98, R136), and the tick where one falls. -/
def Channel.edge (ch : Channel) (t : TimeBase) : Channel :=
  let ch1 := { ch with
    lineLoss := ch.lineLoss.map fun x => x.edge t.unit100us
    verticalLoss := ch.verticalLoss.map fun x => x.edge t.unit1ms
    holdLimit := ch.holdLimit.map fun x => x.edge t.unit100ms }
  if t.tickNext then ch1.tick else ch1

/-- The link at an edge: what is left of the AN_CLK period after a completion, then the frame's bits (R144). -/
def State.linkEdge (s : State) : State :=
  if s.linkRest = 0 then { s with link := s.link.map fun k => { k with elapsed := k.elapsed + 1 } }
  else { s with linkRest := s.linkRest - 1 }

/-- One rising edge of REFCLK at every block (entry 1). -/
def State.clockEdge (s : State) : State :=
  { s.linkEdge with
    time := s.time.edge
    chans := mapEach s.chans fun ch => ch.edge s.time
    edits := mapEach s.edits fun e => e.map fun x => { x with lease := x.lease.edge s.time.unit10ms }
    retiring := s.retiring.map fun e => { e with timer := e.timer.edge s.time.unit10ms } }

/-- What the part does while no command waits: nothing while nRESET is held low (R161); otherwise it takes its own next event
into the queue, or, having none, one rising edge of REFCLK passes (entry 1). -/
def State.idle (s : State) : State :=
  if s.resetLow then s
  else match s.ownWork with
    | some i => { s with pending := [i] }
    | none => s.clockEdge

end Sys2Proof.Machine
end

