-- ==== Sys2Proof/Machine/Catalogue.lean ====
section
/-! DEFINITION. The commands that read the catalogue: READ_RECORD, LIST_RECORDS, FIND_FORMAT (R19, R20, R51). -/

namespace Sys2Proof.Machine

/-- READ RECORD at its grant (R19). -/
def State.serveReadRecord (h : Handle) (s : State) : State × Reply :=
  s.withHandle h fun s => (s, { status := .done, data := encodeRecord h (s.record h) })

/-- One entry of LIST RECORDS (R20, R164). -/
def State.listEntry (s : State) (n : Nat) : List Byte :=
  handleBytes (s.handleOf n) ++ [(s.slot n).rev] ++ bytes2 (s.slot n).body.linePeriod ++ bytes2 (s.slot n).body.frameLines ++
    [byteOf (s.slot n).body.scan.code]

/-- The data of LIST RECORDS for the records that follow the parameter: up to four entries and the end indication (R20). -/
def State.listData (s : State) (l : List Nat) : List Byte :=
  [byteOf (l.take 4).length, byteOf (boolCode (l.length ≤ 4))] ++ (l.take 4).flatMap s.listEntry

/-- LIST RECORDS with START at its grant (R20). -/
def State.serveListStart (s : State) : State × Reply := (s, { status := .done, data := s.listData s.index })

/-- LIST RECORDS with an after-key at its grant (R20). -/
def State.serveListAfter (selector : Byte) (linePeriod frameLines : BitVec 16) (scan : Byte) (s : State) : State × Reply :=
  match scanOf scan.toNat with
  | none => (s, Reply.of .range)
  | some x =>
    if selector = 1 then
      let key : Key := ⟨linePeriod.toNat, frameLines.toNat, x⟩
      (s, { status := .done, data := s.listData (s.index.filter fun n => key.less (s.keyAt n)) })
    else (s, Reply.of .range)

/-- FIND FORMAT at its grant (R51). -/
def State.serveFindFormat (linePeriod frameLines : BitVec 16) (scan : Byte) (syncWidth : BitVec 16)
    (linePolarity verticalPolarity classMask : Byte) (s : State) : State × Reply :=
  match scanOf scan.toNat, polarityOf linePolarity.toNat, polarityOf verticalPolarity.toNat with
  | some x, some lp, some vp =>
    let m : Measurement :=
      { linePeriod := linePeriod.toNat, frameLines := frameLines.toNat, scan := some x, syncWidth := syncWidth.toNat,
        linePolarity := some lp, verticalPolarity := some vp }
    match s.search m classMask with
    | some n => (s, { status := .done, data := handleBytes (s.handleOf n) ++ [(s.slot n).rev] })
    | none => (s, Reply.of .noMatch)
  | _, _, _ => (s, Reply.of .range)

/-- READ_RECORD (R19). -/
def execReadRecord (p : Port) (tag : Byte) (h : Handle) (s : State) : Host.Outcome State Fault Refusal :=
  .next (s.command p tag (.readRecord h) (State.serveReadRecord h))

/-- LIST_RECORDS_START (R20). -/
def execListRecordsStart (p : Port) (tag : Byte) (s : State) : Host.Outcome State Fault Refusal :=
  .next (s.command p tag .listStart State.serveListStart)

/-- LIST_RECORDS_AFTER_KEY (R20). A selector of 0 makes the command LIST RECORDS START (R164). -/
def execListRecordsAfterKey (p : Port) (tag selector : Byte) (linePeriod frameLines : BitVec 16) (scan : Byte) (s : State) :
    Host.Outcome State Fault Refusal :=
  .next (s.command p tag (listCommand selector linePeriod frameLines scan)
    (if selector = 0 then State.serveListStart else State.serveListAfter selector linePeriod frameLines scan))

/-- FIND_FORMAT (R51). -/
def execFindFormat (p : Port) (tag : Byte) (linePeriod frameLines : BitVec 16) (scan : Byte) (syncWidth : BitVec 16)
    (linePolarity verticalPolarity classMask : Byte) (s : State) : Host.Outcome State Fault Refusal :=
  .next (s.command p tag (.findFormat linePeriod frameLines scan syncWidth linePolarity verticalPolarity classMask)
    (State.serveFindFormat linePeriod frameLines scan syncWidth linePolarity verticalPolarity classMask))

end Sys2Proof.Machine
end

