-- ==== Sys2Proof/Machine/Requests.lean ====
section
/-! DEFINITION. Serving and delivering the requests of channels: match, rematch, shortlist rebuild, release (R52 to R55). -/

namespace Sys2Proof.Machine

/-- The count of a released binding's record lowered, where there is a binding (R110). -/
def State.releaseBound (s : State) (bound : Option Handle) : State :=
  match bound with
  | some p => s.countDown p
  | none => s

/-- Whether the record a binding names is RETIRING (R53, R55). -/
def State.boundRetiring (s : State) (bound : Option Handle) : Bool := bound.any s.currentRetiring

/-- The counts of a serving that moves a channel's binding to a record: unchanged where it names that record already (R52,
R110). -/
def State.rebindCounts (s : State) (bound : Option Handle) (h : Handle) : State :=
  if bound = some h then s else (s.releaseBound bound).countUp h

/-! ## Match (R52, R87, R135) -/

/-- A FOUND match result: the binding, the shortlist, and the transition of R87 with the end of a hold (R135). -/
def State.matchFound (s : State) (c : Ch) (m : Measurement) (n : Nat) : State :=
  let ch := s.ch c
  let h := s.handleOf n
  let held := ch.generator.isSome
  let s1 := s.rebindCounts ch.bound h
  let ch1 := { ch.endHold.clearMarks with
    binding := .holding (s1.bindingTo h .found), shortlist := s.buildShortlist m.linePeriod ch.settings (some h)
    request := none }
  let ch2 := if ch.settings.mode = .track then ch1.enterLocked else ch1.enterFrozen
  (((s1.setCh c ch2).setFlagIf held c .holdEnded).setFlag c .lockGained).handOn c

/-- A NONE match result: UNMATCHED in TRACK, FROZEN without a binding in ONE_SHOT (R52, R87, R135). -/
def State.matchNone (s : State) (c : Ch) : State :=
  let ch := s.ch c
  let ch1 := { ch with request := none, shortlist := [] }
  if ch.settings.mode = .track then ((s.setCh c { ch1 with acq := .unmatched }).setFlag c .unmatched).handOn c
  else
    (((s.setCh c (ch1.depart .oneShotNone .none).endHold.enterFrozen).setFlagIf ch.generator.isSome c .holdEnded).setFlag c
      .unmatched).handOn c

/-- A match request served and delivered (R52). -/
def State.serveMatch (s : State) (c : Ch) (m : Measurement) : State :=
  match s.search m (s.ch c).settings.classMask with
  | some n => s.matchFound c m n
  | none => s.matchNone c

/-! ## Rematch (R53, R95) -/

/-- A REBOUND rematch result (R53, R95). -/
def State.rematchRebound (s : State) (c : Ch) (m : Measurement) (n : Nat) : State :=
  let ch := s.ch c
  let h := s.handleOf n
  let s1 := s.rebindCounts ch.bound h
  let ch1 := { ch.endHold.clearMarks with
    binding := .holding (s1.bindingTo h .found), shortlist := s.buildShortlist m.linePeriod ch.settings (some h)
    request := none }
  ((s1.setCh c ch1.enterLocked).setFlag c .formatChanged).handOn c

/-- A RELEASED rematch result (R53, R95, R111). -/
def State.rematchReleased (s : State) (c : Ch) : State :=
  let ch := s.ch c
  (((s.releaseBound ch.bound).setCh c { ch.enterReleased with request := none }).setFlag c .lockLost
    |>.setFlagIf (s.boundRetiring ch.bound) c .bindingReleased).handOn c

/-- A rematch request served and delivered (R53). -/
def State.serveRematch (s : State) (c : Ch) (m : Measurement) : State :=
  match s.quickSearch m (s.ch c).settings.classMask (s.ch c).shortlist with
  | some n => s.rematchRebound c m n
  | none => s.rematchReleased c

/-! ## Shortlist rebuild (R54) -/

/-- A shortlist-rebuild request served and delivered (R54). A DRIFTING channel that kept the need of a rematch posts it
(R94). -/
def State.serveRebuild (s : State) (c : Ch) (linePeriod : Nat) : State :=
  let ch := s.ch c
  let ch1 := { ch with shortlist := s.buildShortlist linePeriod ch.settings ch.bound, request := none }
  s.setCh c (if ch.acq = .drifting && ch.rematch then
    { ch1 with rematch := false, request := some (.rematch ch1.snapshot) } else ch1)

/-! ## Release (R55, R99, R111, R130, R131) -/

/-- The origin of the channel's binding, holding or departing. -/
def Channel.boundOrigin (ch : Channel) : Option Origin :=
  match ch.binding with
  | .none => none
  | .holding b => some b.origin
  | .departing d => some d.origin

/-- The record a release request's hold option holds at the grant, with the catalogue as the release leaves it (R55). -/
def State.heldBy (s : State) (c : Ch) (hold : HoldOption) : Option Handle :=
  let ch := s.ch c
  match hold with
  | .none => none
  | .last =>
    match ch.bound with
    | some h => if s.currentLive h && (ch.boundOrigin == some .found || ch.boundOrigin == some .hold) then some h else none
    | none => none
  | .fixed (some f) => if (s.releaseBound ch.bound).currentLive f then some f else none
  | .fixed none => none

/-- The departing binding of a channel, if any (R82). -/
def Channel.departed (ch : Channel) : Option Departing :=
  match ch.binding with
  | .departing d => some d
  | _ => none

/-- Whether a release result sets flags at the channel: not at an OFF channel, and not where the release is quiet (R111). -/
def Channel.releaseSpeaks (ch : Channel) : Bool :=
  ch.acq != .off && !(ch.departed.any fun d => d.cause == .quiet)

/-- Whether a release result after input loss sets LOCK_LOST: the binding held at the loss had origin MATCH, and the result is
not a hold of the same record (R99). -/
def Channel.releaseLosesLock (ch : Channel) (held : Option Handle) : Bool :=
  ch.departed.any fun d => d.cause == .inputLoss && d.origin == .found && held != some d.handle

/-- Whether a new hold takes up a later revision of the record whose hold departed (R131). -/
def Channel.releaseAmends (ch : Channel) (h : Handle) (rev : Byte) : Bool :=
  ch.departed.any fun d => d.origin == .hold && d.handle == h && d.revSeen != rev

/-- A release request served and delivered (R55). -/
def State.serveRelease (s : State) (c : Ch) (hold : HoldOption) : State :=
  let ch := s.ch c
  let held := s.heldBy c hold
  let s1 := match held with
    | some h => s.rebindCounts ch.bound h
    | none => s.releaseBound ch.bound
  let speaks := ch.releaseSpeaks
  let released := s.boundRetiring ch.bound
  let s2 := (s1.setFlagIf (speaks && ch.releaseLosesLock held) c .lockLost).setFlagIf (speaks && released) c .bindingReleased
  match held with
  | none => (s2.setCh c { ch with binding := .none, request := none }.tryComplete).handOn c
  | some h =>
    let b := s1.bindingTo h .hold
    let ch1 := { ch with binding := .holding b, request := none, holdLimit := loadLimit ch.settings.holdLimit }
    (((s2.setCh c (ch1.takeSetting b.body.frameSetting).tryComplete).setFlagIf (ch.releaseAmends h b.revSeen) c
      .recordAmended).setFlag c .holdStarted).handOn c

/-! ## The rows: a grant of the channel's request by the arbiter (R41, R43) -/

/-- A grant of a channel's posted request, where the arbiter grants that channel (R41). -/
def State.grantChannel (s : State) (c : Ch) (serve : State → State) : State :=
  if s.arbiter = some (chRequester c) then serve { s with granted := chRequester c } else s

/-- MATCH_REQUEST (R52). -/
def execMatchRequest (c : Ch) (s : State) : Host.Outcome State Fault Refusal :=
  .next (match (s.ch c).request with
    | some (.acquire m) => s.grantChannel c fun s => s.serveMatch c m
    | _ => s)

/-- REMATCH_REQUEST (R53). -/
def execRematchRequest (c : Ch) (s : State) : Host.Outcome State Fault Refusal :=
  .next (match (s.ch c).request with
    | some (.rematch m) => s.grantChannel c fun s => s.serveRematch c m
    | _ => s)

/-- SHORTLIST_REBUILD (R54). -/
def execShortlistRebuild (c : Ch) (s : State) : Host.Outcome State Fault Refusal :=
  .next (match (s.ch c).request with
    | some (.rebuild p) => s.grantChannel c fun s => s.serveRebuild c p
    | _ => s)

/-- RELEASE_REQUEST (R55). -/
def execReleaseRequest (c : Ch) (s : State) : Host.Outcome State Fault Refusal :=
  .next (match (s.ch c).request with
    | some (.release hold) => s.grantChannel c fun s => s.serveRelease c hold
    | _ => s)

end Sys2Proof.Machine
end

