-- ==== Sys2Proof/Machine/ChannelCommands.lean ====
section
/-! DEFINITION. The commands on a channel (R56, R77, R80, R83, R97, R101 to R103, R162). -/

namespace Sys2Proof.Machine

/-- CONFIGURE CHANNEL as the engine takes it (R80). -/
def State.serveConfigure (settings : RawSettings) (c : Ch) (s : State) : State × Reply :=
  if (s.ch c).acq != .off then (s, Reply.of .channelState)
  else match settingsOf settings with
    | none => (s, Reply.of .range)
    | some v => (s.setCh c { s.ch c with settings := v }, Reply.of .done)

/-- START CHANNEL as the engine takes it (R62, R83). -/
def State.serveStart (c : Ch) (s : State) : State × Reply :=
  let ch := s.ch c
  if ch.acq != .off then (s, Reply.of .channelState)
  else
    (s.setCh c { ch.clearMarks with
      acq := .seeking, record := MeasureRecord.cleared, front := FrontEnd.cleared, lineLoss := none, verticalLoss := none },
     Reply.of .done)

/-- A channel stopped (R101); an OFF channel is left as it is. -/
def State.stopChannel (s : State) (c : Ch) : State :=
  if (s.ch c).acq = .off then s else (s.setCh c (s.ch c).stop).handOn c

/-- STOP CHANNEL as the engine takes it (R101). -/
def State.serveStop (c : Ch) (s : State) : State × Reply := (s.stopChannel c, Reply.of .done)

/-- REARM CHANNEL as the engine takes it (R102). -/
def State.serveRearm (c : Ch) (s : State) : State × Reply :=
  if (s.ch c).acq = .off then (s, Reply.of .channelState)
  else ((s.setCh c (s.ch c).rearm).handOn c, Reply.of .done)

/-- READ CHANNEL as the engine takes it (R162). -/
def State.serveReadChannel (c : Ch) (s : State) : State × Reply :=
  (s, { status := .done, data := encodeChannel c (s.ch c) (s.ann c) })

/-- READ MEASUREMENT as the engine takes it (R77). -/
def State.serveReadMeasurement (c : Ch) (s : State) : State × Reply :=
  (s, { status := .done, data := encodeMeasurement c (s.ch c).record })

/-- FLUSH SHORTLIST as the engine takes it (R103). -/
def State.serveFlush (c : Ch) (s : State) : State × Reply :=
  let ch := s.ch c
  (s.setCh c { ch with shortlist := [], stale := ch.stale || ch.acq == .locked }, Reply.of .done)

/-- The channel's part of FORCE BINDING, with the binding the controller made (R56, R97). -/
def Channel.forceTo (ch : Channel) (b : Binding) : Channel :=
  let ch1 := { ch.endHold.clearMarks with
    acq := .forced, binding := .holding b, shortlist := [], request := none, lineLoss := none, verticalLoss := none }
  let ch2 :=
    if ch.acq = .seeking || ch.acq = .frozen then
      let ch3 := ch1.startForming
      { ch3 with record := { ch3.record with
        linePolarity := ch.front.lmPolarity, verticalPolarity := ch.front.vmPolarity } }
    else ch1
  ch2.resized ch.effectiveBlock

/-- FORCE BINDING at its grant (R56). -/
def State.serveForce (h : Handle) (c : Ch) (s : State) : State × Reply :=
  let ch := s.ch c
  if ch.acq = .off then (s, Reply.of .channelState)
  else s.withHandle h fun s =>
    if (s.record h).state = .retiring then (s, Reply.of .state)
    else
      let s1 := s.rebindCounts ch.bound h
      ((s1.setCh c (ch.forceTo (s1.bindingTo h .force))).handOn c, Reply.of .done)

/-- FORCE_BINDING (R56). -/
def execForceBinding (p : Port) (tag channel : Byte) (h : Handle) (s : State) : Host.Outcome State Fault Refusal :=
  .next (s.command p tag (.forceBinding channel h) fun s => s.withChannel channel (State.serveForce h))

/-- CONFIGURE_CHANNEL (R80). -/
def execConfigureChannel (p : Port) (tag channel : Byte) (settings : RawSettings) (s : State) :
    Host.Outcome State Fault Refusal :=
  .next (s.command p tag (.configureChannel channel settings) fun s => s.withChannel channel (State.serveConfigure settings))

/-- START_CHANNEL (R83). -/
def execStartChannel (p : Port) (tag channel : Byte) (s : State) : Host.Outcome State Fault Refusal :=
  .next (s.command p tag (.startChannel channel) fun s => s.withChannel channel State.serveStart)

/-- STOP_CHANNEL (R101). -/
def execStopChannel (p : Port) (tag channel : Byte) (s : State) : Host.Outcome State Fault Refusal :=
  .next (s.command p tag (.stopChannel channel) fun s => s.withChannel channel State.serveStop)

/-- REARM_CHANNEL (R102). -/
def execRearmChannel (p : Port) (tag channel : Byte) (s : State) : Host.Outcome State Fault Refusal :=
  .next (s.command p tag (.rearmChannel channel) fun s => s.withChannel channel State.serveRearm)

/-- READ_CHANNEL (R162). -/
def execReadChannel (p : Port) (tag channel : Byte) (s : State) : Host.Outcome State Fault Refusal :=
  .next (s.command p tag (.readChannel channel) fun s => s.withChannel channel State.serveReadChannel)

/-- READ_MEASUREMENT (R77). -/
def execReadMeasurement (p : Port) (tag channel : Byte) (s : State) : Host.Outcome State Fault Refusal :=
  .next (s.command p tag (.readMeasurement channel) fun s => s.withChannel channel State.serveReadMeasurement)

/-- FLUSH_SHORTLIST (R103). -/
def execFlushShortlist (p : Port) (tag channel : Byte) (s : State) : Host.Outcome State Fault Refusal :=
  .next (s.command p tag (.flushShortlist channel) fun s => s.withChannel channel State.serveFlush)

end Sys2Proof.Machine
end

