-- ==== Sys2Proof/Machine/Device.lean ====
section
/-! DEFINITION. The device commands: READ_DEVICE, SETUP_DEVICE, RESET_DEVICE (R157 to R160). -/

namespace Sys2Proof.Machine

/-- READ DEVICE at its grant (R157). -/
def State.serveReadDevice (s : State) : State × Reply := (s, { status := .done, data := s.encodeDevice })

/-- Whether the five values of SETUP DEVICE lie in their ranges (R158, check 1). -/
def setupInRange (refclk divider lease retire announce : Nat) : Bool :=
  4000 ≤ refclk && refclk ≤ 150000 && [1, 2, 4].contains divider && 1 ≤ lease && lease ≤ 255 && 1 ≤ retire &&
    retire ≤ 255 && announce ≤ 1

/-- Whether every channel is OFF. -/
def State.allOff (s : State) : Bool := channels.all fun c => (s.ch c).acq == .off

/-- SETUP DEVICE as the time base takes it (R61, R145, R158). A change of divider restarts the count of REFCLK edges (R59). -/
def State.serveSetup (refclk : BitVec 24) (divider lease retire announce : Byte) (s : State) : State × Reply :=
  if !setupInRange refclk.toNat divider.toNat lease.toNat retire.toNat announce.toNat then (s, Reply.of .range)
  else if (refclk.toNat != s.time.refclk || divider.toNat != s.time.divider) && !s.allOff then (s, Reply.of .clockLocked)
  else
    let on := announce == 1
    let s1 := { s with time :=
      { refclk := refclk.toNat, divider := divider.toNat, lease := lease.toNat, retire := retire.toNat, announce := on,
        phase := if divider.toNat = s.time.divider then s.time.phase else 0 } }
    (if on && !s.time.announce then s1.beginFrame else s1, Reply.of .done)

/-- RESET DEVICE with FULL as the port takes it: DONE is placed and the full reset waits (R160). -/
def State.serveResetFull (s : State) : State × Reply := ({ s with resetWaiting := true }, Reply.of .done)

/-- A channel stopped by a channel reset: as STOP CHANNEL, with its NONE announcement made and not yet begun (R108, R147). -/
def State.resetChannel (s : State) (c : Ch) : State :=
  if (s.ch c).acq = .off then s else (s.setCh c (s.ch c).stop).announceChange c

/-- A channel reset (R108, R147, R159, R175). The order is the model's choice (entries 9 and 31): every channel engine, then
the serializer's frame in rotation, then the event unit's clearing, all in one step, so that no channel event falls between the
clearing and a channel's own reset, as R175 allows. -/
def State.channelReset (s : State) : State :=
  let s1 := channels.foldl State.resetChannel s
  s1.beginFrame.clearChannelFlags

/-- RESET DEVICE with another parameter as the port takes it (R159). -/
def State.serveResetOther (selector : Byte) (s : State) : State × Reply :=
  if selector = 1 then (s.channelReset, Reply.of .done) else (s, Reply.of .range)

/-- READ_DEVICE (R157). -/
def execReadDevice (p : Port) (tag : Byte) (s : State) : Host.Outcome State Fault Refusal :=
  .next (s.command p tag .readDevice State.serveReadDevice)

/-- SETUP_DEVICE (R158). -/
def execSetupDevice (p : Port) (tag : Byte) (refclk : BitVec 24) (divider lease retire announce : Byte) (s : State) :
    Host.Outcome State Fault Refusal :=
  .next (s.command p tag (.setupDevice refclk divider lease retire announce)
    (State.serveSetup refclk divider lease retire announce))

/-- RESET_DEVICE_FULL (R160). -/
def execResetDeviceFull (p : Port) (tag : Byte) (s : State) : Host.Outcome State Fault Refusal :=
  .next (s.command p tag .resetFull State.serveResetFull)

/-- RESET_DEVICE_CHANNELS (R159). A selector of 0 makes the command RESET DEVICE FULL (R164). -/
def execResetDeviceChannels (p : Port) (tag selector : Byte) (s : State) : Host.Outcome State Fault Refusal :=
  .next (s.command p tag (resetCommand selector)
    (if selector = 0 then State.serveResetFull else State.serveResetOther selector))

end Sys2Proof.Machine
end

