-- ==== Sys2Proof/Machine/Editing.lean ====
section
/-! DEFINITION. Edit contexts: opening, preparing, committing, dropping, and the lease (chapter 2). -/

namespace Sys2Proof.Machine

/-- The lowest-numbered FREE context (R25, R26). -/
def State.freeContext (s : State) : Option (Fin 4) := ([0, 1, 2, 3] : List (Fin 4)).find? fun id => (s.edit id).isNone

/-- The lease loaded from the lease setting in force (R37). -/
def State.leaseLoad (s : State) : Timer := { units := s.time.lease, elapsed := 0 }

/-- A context opened (R25, R26). -/
def State.openContext (s : State) (id : Fin 4) (target : Option Handle) (body : WorkBody) : State :=
  s.setEdit id (some { target := target, body := body, changed := 0, lease := s.leaseLoad })

/-- The edit mark of the record a handle names (R9). -/
def State.setMark (s : State) (h : Handle) (mark : Option (Fin 4)) : State :=
  s.setSlot h.slot.toNat { s.record h with mark := mark }

/-- A context going FREE, with the edit mark of its target cleared (R9). -/
def State.freeContextOf (s : State) (id : Fin 4) (e : EditContext) : State :=
  match e.target with
  | some h => (s.setMark h none).setEdit id none
  | none => s.setEdit id none

/-- The answer to a command that names an edit id: NO_EDIT where it names no OPEN context (R24). -/
def State.withEdit (s : State) (id : Byte) (serve : Fin 4 → EditContext → State × Reply) : State × Reply :=
  if h : id.toNat < 4 then
    match s.edit ⟨id.toNat, h⟩ with
    | some e => serve ⟨id.toNat, h⟩ e
    | none => (s, Reply.of .noEdit)
  else (s, Reply.of .noEdit)

/-- OPEN EDIT with NEW at its grant (R26). -/
def State.serveOpenNew (s : State) : State × Reply :=
  match s.freeContext with
  | none => (s, Reply.of .editFull)
  | some id => (s.openContext id none WorkBody.fresh, { status := .done, data := [byteOf id.val, 0] })

/-- OPEN EDIT with a handle at its grant (R25). A selector other than 0 and 1 is answered RANGE (R164) before the handle is
checked (R6): the model's choice of order (entry 18). -/
def State.serveOpen (selector : Byte) (h : Handle) (s : State) : State × Reply :=
  if selector = 1 then
    s.withHandle h fun s =>
      let v := s.record h
      if v.state = .retiring then (s, Reply.of .state)
      else if v.mark.isSome then (s, Reply.of .editOpen)
      else match s.freeContext with
        | none => (s, Reply.of .editFull)
        | some id =>
          ((s.openContext id (some h) v.body.toWork).setMark h (some id), { status := .done, data := [byteOf id.val, v.rev] })
  else (s, Reply.of .range)

/-- SET FIELD at its grant (R27): the lease is reloaded whether the answer is DONE or RANGE (R37). -/
def State.serveSetField (id field : Byte) (value : BitVec 16) (s : State) : State × Reply :=
  s.withEdit id fun k e =>
    match fieldOf field.toNat with
    | none => (s.setEdit k (some { e with lease := s.leaseLoad }), Reply.of .range)
    | some f =>
      match e.body.set f value with
      | none => (s.setEdit k (some { e with lease := s.leaseLoad }), Reply.of .range)
      | some w =>
        (s.setEdit k (some { e with body := w, changed := e.changed ||| BitVec.twoPow 13 f.bit, lease := s.leaseLoad }),
          Reply.of .done)

/-- CLEAR FIELD at its grant (R28): the lease is reloaded whether the answer is DONE or RANGE (R37). -/
def State.serveClearField (id field : Byte) (s : State) : State × Reply :=
  s.withEdit id fun k e =>
    match fieldOf field.toNat with
    | none => (s.setEdit k (some { e with lease := s.leaseLoad }), Reply.of .range)
    | some f =>
      (s.setEdit k (some { e with
        body := e.body.clear f, changed := e.changed ||| BitVec.twoPow 13 f.bit, lease := s.leaseLoad }), Reply.of .done)

/-- READ EDIT at its grant (R30). -/
def State.serveReadEdit (id : Byte) (s : State) : State × Reply :=
  s.withEdit id fun k e => (s.setEdit k (some { e with lease := s.leaseLoad }), { status := .done, data := e.encode })

/-- DROP EDIT at its grant (R31). -/
def State.serveDropEdit (id : Byte) (s : State) : State × Reply :=
  s.withEdit id fun k e => (s.freeContextOf k e, Reply.of .done)

/-! ## The notices of a commit (R36) -/

/-- Whether a commit of the record in a slot concerns a channel's shortlist: it lists the record, or its valid measurement
lies within its neighbourhood (R36). -/
def State.shortlistConcerned (s : State) (n : Nat) (ch : Channel) : Bool :=
  (ch.shortlist.any fun e => e.handle == s.handleOf n) ||
    (ch.record.valid && dist (s.slot n).body.linePeriod ch.record.linePeriod ≤ ch.settings.neighbourhood)

/-- The shortlist stale and rematch marks a commit sets on a channel (R36). A shortlist stale mark is cleared when set in
SEEKING and FROZEN (R84, R96); an OFF channel receives none. -/
def State.noticeMarks (s : State) (n : Nat) (c : Ch) : State :=
  let ch := s.ch c
  let keeps := ch.acq != .off && ch.acq != .seeking && ch.acq != .frozen
  s.setCh c { ch with
    stale := ch.stale || (keeps && s.shortlistConcerned n ch)
    rematch := ch.rematch || (ch.acq == .unmatched && ch.settings.mode == .track) }

/-- The re-verify mark of an amendment at a channel whose holding binding names the record (R36): FROZEN and FORCED take the
amendment up at once (R113), every other state keeps the mark. A departing binding discards it (R112). -/
def State.noticeAmendment (s : State) (n : Nat) (c : Ch) : State :=
  let ch := s.ch c
  let v := s.slot n
  if ch.holding.any fun b => b.handle == s.handleOf n then
    if ch.acq = .frozen || ch.acq = .forced then
      ((s.setCh c (ch.takeUp v.body v.rev)).setFlag c .recordAmended).handOn c
    else s.setCh c { ch with reverify := some (v.body, v.rev) }
  else s

/-- The notices of a commit to the six channels. Which acts first is a free value (R141, entry 8). -/
def State.noticeCommit (s : State) (n : Nat) (amended : Bool) : State :=
  let first := Config.firstToAct s.choices
  let order : List Ch := [first, first + 1, first + 2, first + 3, first + 4, first + 5]
  order.foldl (fun s c => (if amended then s.noticeAmendment n c else s).noticeMarks n c)
    { s with choices := s.choices + 1 }

/-! ## Committing -/

/-- The response of a successful commit: the record's handle and revision (R34, R35). -/
def State.commitReply (s : State) (n : Nat) : Reply :=
  { status := .done, data := handleBytes (s.handleOf n) ++ [(s.slot n).rev] }

/-- A commit refused: the context stays OPEN and its lease is reloaded (R33, R37). -/
def State.commitRefused (s : State) (k : Fin 4) (e : EditContext) (status : Status) : State × Reply :=
  (s.setEdit k (some { e with lease := s.leaseLoad }), Reply.of status)

/-- A record created in a FREE slot (R34), before the notices. -/
def State.createRecord (s : State) (k : Fin 4) (n : Nat) (body : Body) : State :=
  ((s.setSlot n { s.slot n with state := .live, rev := 0, count := 0, mark := none, body := body }).indexInsert n).setEdit k none

/-- A record amended (R35), before the notices. A record whose key is unchanged keeps its place in the index. -/
def State.amendRecord (s : State) (k : Fin 4) (n : Nat) (body : Body) : State :=
  let v := s.slot n
  let s1 := s.setSlot n { v with body := body, rev := v.rev + 1, mark := none }
  (if v.body.key = body.key then s1 else (s1.indexRemove n).indexInsert n).setEdit k none

/-- COMMIT EDIT at its grant (R32 to R36). -/
def State.serveCommitEdit (id : Byte) (s : State) : State × Reply :=
  s.withEdit id fun k e =>
    match e.body.toBody with
    | none => s.commitRefused k e .inconsistent
    | some body =>
      if !body.consistent then s.commitRefused k e .inconsistent
      else match e.target with
        | none =>
          match s.lowestFree with
          | none => s.commitRefused k e .catalogueFull
          | some n =>
            if s.keyTaken body.key none then s.commitRefused k e .duplicate
            else
              let s1 := s.createRecord k n body
              (s1.noticeCommit n false, s1.commitReply n)
        | some h =>
          if s.keyTaken body.key (some h.slot.toNat) then s.commitRefused k e .duplicate
          else
            let s1 := s.amendRecord k h.slot.toNat body
            (s1.noticeCommit h.slot.toNat true, s1.commitReply h.slot.toNat)

/-! ## The rows -/

/-- OPEN_EDIT (R25). A selector of 0 makes the command OPEN EDIT NEW (R164). -/
def execOpenEdit (p : Port) (tag selector : Byte) (h : Handle) (s : State) : Host.Outcome State Fault Refusal :=
  .next (s.command p tag (openCommand selector h) (if selector = 0 then State.serveOpenNew else State.serveOpen selector h))

/-- OPEN_EDIT_NEW (R26). -/
def execOpenEditNew (p : Port) (tag : Byte) (s : State) : Host.Outcome State Fault Refusal :=
  .next (s.command p tag .openEditNew State.serveOpenNew)

/-- SET_FIELD (R27). -/
def execSetField (p : Port) (tag id field : Byte) (value : BitVec 16) (s : State) : Host.Outcome State Fault Refusal :=
  .next (s.command p tag (.setField id field value) (State.serveSetField id field value))

/-- CLEAR_FIELD (R28). -/
def execClearField (p : Port) (tag id field : Byte) (s : State) : Host.Outcome State Fault Refusal :=
  .next (s.command p tag (.clearField id field) (State.serveClearField id field))

/-- READ_EDIT (R30). -/
def execReadEdit (p : Port) (tag id : Byte) (s : State) : Host.Outcome State Fault Refusal :=
  .next (s.command p tag (.readEdit id) (State.serveReadEdit id))

/-- COMMIT_EDIT (R32). -/
def execCommitEdit (p : Port) (tag id : Byte) (s : State) : Host.Outcome State Fault Refusal :=
  .next (s.command p tag (.commitEdit id) (State.serveCommitEdit id))

/-- DROP_EDIT (R31). -/
def execDropEdit (p : Port) (tag id : Byte) (s : State) : Host.Outcome State Fault Refusal :=
  .next (s.command p tag (.dropEdit id) (State.serveDropEdit id))

/-- LEASE_EXPIRY (R38): where the context is OPEN it goes FREE and EDIT_EXPIRED is set. -/
def execLeaseExpiry (id : Fin 4) (s : State) : Host.Outcome State Fault Refusal :=
  .next (match s.edit id with
    | some e => (s.freeContextOf id e).setDeviceFlag .editExpired
    | none => s)

end Sys2Proof.Machine
end

