-- ==== Sys2Proof/Machine/Events.lean ====
section
/-! DEFINITION. The commands of the event unit (R171 to R173). -/

namespace Sys2Proof.Machine

/-- Whether two bytes name nothing but the nine flags of a channel (R172, R173). -/
def channelMapOk (m : BitVec 16) : Bool := m.toNat < 512

/-- Whether a device byte names nothing but the three device flags (R172, R173). -/
def deviceMapOk (d : Byte) : Bool := d.toNat < 8

/-- Whether every bitmap of a command names nothing but flags (R172, R173). -/
def mapsOk (maps : ChannelMaps) (device : Byte) : Bool := maps.toList.all channelMapOk && deviceMapOk device

/-- READ EVENTS as the event unit takes it (R171). -/
def State.serveReadEvents (s : State) : State × Reply := (s, { status := .done, data := s.events.encode })

/-- CLEAR EVENTS as the event unit takes it (R172). -/
def State.serveClearEvents (maps : ChannelMaps) (device : Byte) (s : State) : State × Reply :=
  if mapsOk maps device then
    ({ s with events := { s.events with
        flags := zipEach s.events.flags maps fun f m => f &&& ~~~ m.setWidth 9
        device := s.events.device &&& ~~~ device.setWidth 3 } }, Reply.of .done)
  else (s, Reply.of .range)

/-- SET EVENT MASKS as the event unit takes it (R173). -/
def State.serveSetEventMasks (maps : ChannelMaps) (device pinDisable : Byte) (s : State) : State × Reply :=
  if mapsOk maps device && pinDisable.toNat < 2 then
    ({ s with events := { s.events with
        enables := mapEach maps fun m => m.setWidth 9
        deviceEnables := device.setWidth 3
        pinDisable := pinDisable == 1 } }, Reply.of .done)
  else (s, Reply.of .range)

/-- READ_EVENTS (R171). -/
def execReadEvents (p : Port) (tag : Byte) (s : State) : Host.Outcome State Fault Refusal :=
  .next (s.command p tag .readEvents State.serveReadEvents)

/-- CLEAR_EVENTS (R172). -/
def execClearEvents (p : Port) (tag : Byte) (maps : ChannelMaps) (device : Byte) (s : State) :
    Host.Outcome State Fault Refusal :=
  .next (s.command p tag (.clearEvents maps device) (State.serveClearEvents maps device))

/-- SET_EVENT_MASKS (R173). -/
def execSetEventMasks (p : Port) (tag : Byte) (maps : ChannelMaps) (device pinDisable : Byte) (s : State) :
    Host.Outcome State Fault Refusal :=
  .next (s.command p tag (.setEventMasks maps device pinDisable) (State.serveSetEventMasks maps device pinDisable))

end Sys2Proof.Machine
end

