-- ==== Sys2Proof/Machine/Ports.lean ====
section
/-! DEFINITION. Power and nRESET, command frames, reads, and the two transports (R149 to R155, R160, R161). -/

namespace Sys2Proof.Machine

/-- The model's record of what a port sent to its master (entry 22). No read that a full reset cut is left on the port
(entry 23). -/
def State.setSent (s : State) (p : Port) (sent : List Byte) (acks : List Bool) : State :=
  s.setPort p { s.port p with lost := .empty, sent := sent, acks := acks }

/-- Whether a port takes a frame whose first byte arrives now (R151, R160). -/
def State.takesFrame (s : State) (p : Port) : Bool := (s.port p).slot = .empty || s.resetWaiting

/-- The intake byte of the host port for a frame byte (R154). -/
def intakeByte (taken : Bool) : Byte := if taken then 0x00 else Status.busy.code

/-- A command that passes its intake checks enters EXECUTING and is handed over (R149, R152). The port itself takes RESET DEVICE at
once, and so its response stands at the end of its frame (R159, R160); every other command waits for its block. -/
def State.handOver (s : State) (p : Port) (tag : Byte) (cmd : Cmd) : State :=
  let s1 := s.setPort p { s.port p with slot := .executing tag cmd }
  match cmd with
  | .resetFull => s1.take p tag cmd State.serveResetFull
  | .resetOther selector => s1.take p tag cmd (State.serveResetOther selector)
  | _ => s1

/-- The end of a command frame on a port: a refused frame is discarded (R151), a frame in RECEIVING makes its intake checks
(R150) and is answered or handed over. -/
def State.frameEnd (s : State) (p : Port) (bytes : List Byte) : State :=
  if s.resetLow then s
  else if (s.port p).refusing then s.setPort p { s.port p with refusing := false }
  else if (s.port p).slot = .receiving then
    match intake p bytes with
    | .error e => s.respond p { status := e, tag := frameTag bytes, data := [] }
    | .ok cmd => s.handOver p (frameTag bytes) cmd
  else s

/-- An SPI transaction of a type byte and the bytes that follow it (R154). -/
def State.hostTransaction (s : State) (type : Byte) (bytes : List Byte) : State :=
  if s.resetLow then s
  else if type = 0x5A then
    if bytes.isEmpty then s.setSent .host [0x00] []
    else
      ((s.frameStart .host).frameEnd .host bytes).setSent .host
        (0x00 :: List.replicate bytes.length (intakeByte (s.takesFrame .host))) []
  else if type = 0xA5 then (s.readEnd .host bytes.length).setSent .host (0x00 :: s.host.readBytes bytes.length) []
  else s.setSent .host (List.replicate (bytes.length + 1) 0x00) []

/-- POWER_ON: a full reset, after which the part begins (R161). -/
def execPowerOn (ma : Bool) (s : State) : Host.Outcome State Fault Refusal :=
  .next { s with resetLow := false, maLevel := ma }.fullReset

/-- NRESET_ASSERT: a full reset takes effect and nRESET is held low (R161). -/
def execNresetAssert (s : State) : Host.Outcome State Fault Refusal := .next { s with resetLow := true }.fullReset

/-- NRESET_RELEASE: where nRESET is held low it rises, MA is sampled and the part begins (R155, R161). -/
def execNresetRelease (ma : Bool) (s : State) : Host.Outcome State Fault Refusal :=
  .next (if s.resetLow then
    { s with resetLow := false, maLevel := ma, monitorAddress := Config.monitorAddress ma } else s)

/-- COMMAND_FRAME_START (R151), with the intake byte or the acknowledge that the transport returns (R154, R155). -/
def execCommandFrameStart (p : Port) (s : State) : Host.Outcome State Fault Refusal :=
  .next (if s.resetLow then s
    else match p with
      | .host => (s.frameStart .host).setSent .host [intakeByte (s.takesFrame .host)] []
      | .monitor => (s.frameStart .monitor).setSent .monitor [] [s.takesFrame .monitor])

/-- COMMAND_FRAME_END (R150, R151). -/
def execCommandFrameEnd (p : Port) (bytes : List Byte) (s : State) : Host.Outcome State Fault Refusal :=
  .next (s.frameEnd p bytes)

/-- The end of a read that took `taken` bytes, where the slot was READY at its start or not (R153). -/
def State.endRead (s : State) (p : Port) (ready : Bool) (taken : Nat) : State :=
  match (s.port p).slot.readAs ready with
  | some r => (if ready then s.readEnd p taken else s).setSent p (r.bytes taken) []
  | none => s

/-- The end of a read that a full reset cut after `cut` bytes: it changes no slot (R160). The slot it began on stands in
`lost`. -/
def State.endCutRead (s : State) (p : Port) (ready : Bool) (cut taken : Nat) : State :=
  if (s.port p).slot = .empty then
    match (s.port p).lost.readAs ready with
    | some r => s.setSent p (r.cutBytes cut taken) []
    | none => s
  else s

/-- RESPONSE_READ_END (R153, R160). An end that no read can have leaves the state as it is (entries 3 and 23). -/
def execResponseReadEnd (p : Port) (course : ReadCourse) (taken : Nat) (s : State) : Host.Outcome State Fault Refusal :=
  .next (if s.resetLow then s
    else match course with
      | .whole ready => s.endRead p ready taken
      | .cut ready after => s.endCutRead p ready after taken)

/-- HOST_COMMAND_TRANSACTION (R154). -/
def execHostCommandTransaction (type : Byte) (bytes : List Byte) (s : State) : Host.Outcome State Fault Refusal :=
  .next (s.hostTransaction type bytes)

/-- HOST_READ_RESPONSE (R153, R154). -/
def execHostReadResponse (count : Nat) (s : State) : Host.Outcome State Fault Refusal :=
  .next (s.hostTransaction 0xA5 (List.replicate count 0x00))

/-- MONITOR_WRITE_TRANSFER (R155): the acknowledges are those of the address and of each data byte. -/
def execMonitorWriteTransfer (address : BitVec 7) (bytes : List Byte) (s : State) : Host.Outcome State Fault Refusal :=
  .next (if s.resetLow then s
    else if address = s.monitorAddress then
      if bytes.isEmpty then s.setSent .monitor [] [true]
      else
        ((s.frameStart .monitor).frameEnd .monitor bytes).setSent .monitor []
          (true :: List.replicate bytes.length (s.takesFrame .monitor))
    else s.setSent .monitor [] [false])

/-- MONITOR_READ_TRANSFER (R153, R155). -/
def execMonitorReadTransfer (address : BitVec 7) (count : Nat) (s : State) : Host.Outcome State Fault Refusal :=
  .next (if s.resetLow then s
    else if address = s.monitorAddress then
      (s.readEnd .monitor count).setSent .monitor (s.monitor.readBytes count) [true]
    else s.setSent .monitor [] [false])

end Sys2Proof.Machine
end

