-- ==== Sys2Proof/Machine/Retirement.lean ====
section
/-! DEFINITION. Retiring a record, its notices, and the forced release of its retire timer (chapter 6). -/

namespace Sys2Proof.Machine

/-- A retire notice at a channel whose holding binding names the record (R118 to R120). -/
def State.retireNotice (s : State) (h : Handle) (c : Ch) : State :=
  let ch := s.ch c
  match ch.holding with
  | none => s
  | some b =>
    if b.handle != h then s
    else if b.origin = .hold then
      ((((s.countDown h).setCh c { ch.endHold with binding := .none }).setFlag c .holdEnded).setFlag c .bindingReleased).handOn c
    else match ch.acq with
      | .locked => s.setCh c { ch with rematch := true }
      | .frozen =>
        (((s.countDown h).setCh c { ch with binding := .none, reverify := none }).setFlag c .bindingReleased).handOn c
      | .forced =>
        (((s.countDown h).setCh c { { ch with binding := .none }.enterSeeking with reverify := none }).setFlag c
          .bindingReleased).handOn c
      | _ => s

/-- RETIRE RECORD accepted with binding count above 0: the steps of R116. -/
def State.beginRetirement (s : State) (h : Handle) : State :=
  let n := h.slot.toNat
  let s1 := (s.setSlot n { s.slot n with state := .retiring, mark := none }).indexRemove n
  let s2 := { s1 with retiring := s1.retiring ++ [{ handle := h, timer := { units := s.time.retire, elapsed := 0 } }] }
  channels.foldl (fun s c => s.retireNotice h c) s2

/-- RETIRE RECORD at its grant (R114 to R116). Where its immediate releases complete the retirement the answer is DONE, as R116
and R119 give, for a FROZEN channel in ONE_SHOT too, where R121's table says PENDING (entry 32). -/
def State.serveRetireRecord (h : Handle) (s : State) : State × Reply :=
  s.withHandle h fun s =>
    let v := s.record h
    if v.state = .retiring then (s, Reply.of .state)
    else if v.body.protect then (s, Reply.of .protectedRecord)
    else if v.mark.isSome then (s, Reply.of .editOpen)
    else if 0 < v.count && Config.retireCapacity ≤ s.retiring.length then (s, Reply.of .retireFull)
    else if v.count = 0 then
      ((s.indexRemove h.slot.toNat).freeSlot h.slot.toNat, { status := .done, data := handleBytes h })
    else
      let s1 := s.beginRetirement h
      (s1, { status := if s1.currentRetiring h then .pending else .done, data := handleBytes h })

/-- The forced release of one channel at the expiry of a retire timer (R125). -/
def State.forceRelease (s : State) (h : Handle) (c : Ch) : State :=
  let ch := s.ch c
  match ch.binding with
  | .none => s
  | .departing d =>
    if d.handle != h then s
    else match ch.request with
      | some (.release hold) => s.serveRelease c hold
      | _ => s
  | .holding b =>
    if b.handle != h then s
    else
      ((((s.countDown h).setCh c { ch.enterReleased with request := none }).setFlag c .lockLost).setFlag c
        .bindingReleased).handOn c

/-- The expiry of a retire timer served: forced releases from CH0 to CH5, RETIRE_FORCED, and the completion (R125). -/
def State.expireRetirement (s : State) (h : Handle) : State :=
  let s1 := channels.foldl (fun s c => s.forceRelease h c) (s.setDeviceFlag .retireForced)
  if s1.retiring.any fun e => e.handle == h then s1.completeRetirement h else s1

/-- RETIRE_RECORD (R114). -/
def execRetireRecord (p : Port) (tag : Byte) (h : Handle) (s : State) : Host.Outcome State Fault Refusal :=
  .next (s.command p tag (.retireRecord h) (State.serveRetireRecord h))

/-- RETIRE_TIMER_EXPIRY (R125), where the pending-retire set holds the handle. -/
def execRetireTimerExpiry (h : Handle) (s : State) : Host.Outcome State Fault Refusal :=
  .next (if s.retiring.any fun e => e.handle == h then s.expireRetirement h else s)

end Sys2Proof.Machine
end

