-- ==== Sys2Proof/Machine/Dispatch.lean ====
section
/-! DEFINITION. The dispatch of every command and event to its meaning. -/

namespace Sys2Proof.Machine

/-- What a command or event does to everything but the queue. -/
def exec (i : Instr) (s : State) : Host.Outcome State Fault Refusal :=
  match i with
  | .powerOn ma => Sys2Proof.Machine.execPowerOn ma s
  | .nresetAssert => Sys2Proof.Machine.execNresetAssert s
  | .nresetRelease ma => Sys2Proof.Machine.execNresetRelease ma s
  | .commandFrameStart p => Sys2Proof.Machine.execCommandFrameStart p s
  | .commandFrameEnd p bytes => Sys2Proof.Machine.execCommandFrameEnd p bytes s
  | .responseReadEnd p course taken => Sys2Proof.Machine.execResponseReadEnd p course taken s
  | .hostCommandTransaction type bytes => Sys2Proof.Machine.execHostCommandTransaction type bytes s
  | .hostReadResponse count => Sys2Proof.Machine.execHostReadResponse count s
  | .monitorWriteTransfer address bytes => Sys2Proof.Machine.execMonitorWriteTransfer address bytes s
  | .monitorReadTransfer address count => Sys2Proof.Machine.execMonitorReadTransfer address count s
  | .readDevice p tag => Sys2Proof.Machine.execReadDevice p tag s
  | .setupDevice p tag refclk divider lease retire announce => Sys2Proof.Machine.execSetupDevice p tag refclk divider lease retire announce s
  | .resetDeviceFull p tag => Sys2Proof.Machine.execResetDeviceFull p tag s
  | .resetDeviceChannels p tag selector => Sys2Proof.Machine.execResetDeviceChannels p tag selector s
  | .readRecord p tag h => Sys2Proof.Machine.execReadRecord p tag h s
  | .listRecordsStart p tag => Sys2Proof.Machine.execListRecordsStart p tag s
  | .listRecordsAfterKey p tag selector linePeriod frameLines scan => Sys2Proof.Machine.execListRecordsAfterKey p tag selector linePeriod frameLines scan s
  | .findFormat p tag linePeriod frameLines scan syncWidth linePolarity verticalPolarity classMask => Sys2Proof.Machine.execFindFormat p tag linePeriod frameLines scan syncWidth linePolarity verticalPolarity classMask s
  | .openEdit p tag selector h => Sys2Proof.Machine.execOpenEdit p tag selector h s
  | .openEditNew p tag => Sys2Proof.Machine.execOpenEditNew p tag s
  | .setField p tag id field value => Sys2Proof.Machine.execSetField p tag id field value s
  | .clearField p tag id field => Sys2Proof.Machine.execClearField p tag id field s
  | .readEdit p tag id => Sys2Proof.Machine.execReadEdit p tag id s
  | .commitEdit p tag id => Sys2Proof.Machine.execCommitEdit p tag id s
  | .dropEdit p tag id => Sys2Proof.Machine.execDropEdit p tag id s
  | .leaseExpiry id => Sys2Proof.Machine.execLeaseExpiry id s
  | .retireRecord p tag h => Sys2Proof.Machine.execRetireRecord p tag h s
  | .retireTimerExpiry h => Sys2Proof.Machine.execRetireTimerExpiry h s
  | .forceBinding p tag channel h => Sys2Proof.Machine.execForceBinding p tag channel h s
  | .configureChannel p tag channel settings => Sys2Proof.Machine.execConfigureChannel p tag channel settings s
  | .startChannel p tag channel => Sys2Proof.Machine.execStartChannel p tag channel s
  | .stopChannel p tag channel => Sys2Proof.Machine.execStopChannel p tag channel s
  | .rearmChannel p tag channel => Sys2Proof.Machine.execRearmChannel p tag channel s
  | .readChannel p tag channel => Sys2Proof.Machine.execReadChannel p tag channel s
  | .readMeasurement p tag channel => Sys2Proof.Machine.execReadMeasurement p tag channel s
  | .flushShortlist p tag channel => Sys2Proof.Machine.execFlushShortlist p tag channel s
  | .readEvents p tag => Sys2Proof.Machine.execReadEvents p tag s
  | .clearEvents p tag channelMaps device => Sys2Proof.Machine.execClearEvents p tag channelMaps device s
  | .setEventMasks p tag channelMaps device pinDisable => Sys2Proof.Machine.execSetEventMasks p tag channelMaps device pinDisable s
  | .matchRequest c => Sys2Proof.Machine.execMatchRequest c s
  | .rematchRequest c => Sys2Proof.Machine.execRematchRequest c s
  | .shortlistRebuild c => Sys2Proof.Machine.execShortlistRebuild c s
  | .releaseRequest c => Sys2Proof.Machine.execReleaseRequest c s
  | .lmCycleComplete c high cycle => Sys2Proof.Machine.execLmCycleComplete c high cycle s
  | .vmCycleComplete c high cycle => Sys2Proof.Machine.execVmCycleComplete c high cycle s
  | .polarityChange c input => Sys2Proof.Machine.execPolarityChange c input s
  | .lineMarker c ticks => Sys2Proof.Machine.execLineMarker c ticks s
  | .longLinePeriod c => Sys2Proof.Machine.execLongLinePeriod c s
  | .blockBoundary c => Sys2Proof.Machine.execBlockBoundary c s
  | .verticalMarker c => Sys2Proof.Machine.execVerticalMarker c s
  | .longVerticalInterval c => Sys2Proof.Machine.execLongVerticalInterval c s
  | .syncWidthComplete c => Sys2Proof.Machine.execSyncWidthComplete c s
  | .lineLossExpiry c => Sys2Proof.Machine.execLineLossExpiry c s
  | .verticalLossExpiry c => Sys2Proof.Machine.execVerticalLossExpiry c s
  | .holdLimitExpiry c => Sys2Proof.Machine.execHoldLimitExpiry c s
  | .substituteFrameStart c => Sys2Proof.Machine.execSubstituteFrameStart c s
  | .substituteLine c => Sys2Proof.Machine.execSubstituteLine c s
  | .announceFrameComplete => Sys2Proof.Machine.execAnnounceFrameComplete s
  | .subLmPulseEnd c => Sys2Proof.Machine.execSubLmPulseEnd c s

end Sys2Proof.Machine
end

