-- ==== Sys2Proof/Safety.lean ====
section
/-! DEFINITION. The laws the spec states of the whole part, as properties of one state: what a safe run keeps. -/

namespace Sys2Proof.Machine

/-! ## Channels (R79, R82, R91, R96, R98, R105, R109, R128) -/

/-- Whether a release request is posted. -/
def Channel.releasePosted (ch : Channel) : Bool :=
  match ch.request with
  | some (.release _) => true
  | _ => false

/-- The laws of a channel's binding. It is never both holding and departing, and a departing binding has its release posted
(R82). A holding binding has none posted; its origin is MATCH only in LOCKED, DRIFTING and FROZEN, FORCE exactly in FORCED
(R109), and HOLD exactly while the generator is RUNNING, which is only in SEEKING, MEASURING and UNMATCHED (R128). -/
def Channel.bindingLaw (ch : Channel) : Bool :=
  match ch.binding with
  | .none => ch.acq != .locked && ch.acq != .drifting && ch.acq != .forced && ch.generator.isNone
  | .departing _ =>
    ch.acq != .locked && ch.acq != .drifting && ch.acq != .forced && ch.generator.isNone && ch.releasePosted
  | .holding b =>
    !ch.releasePosted &&
      match b.origin with
      | .found => (ch.acq == .locked || ch.acq == .drifting || ch.acq == .frozen) && ch.generator.isNone
      | .force => ch.acq == .forced && ch.generator.isNone
      | .hold => (ch.acq == .seeking || ch.acq == .measuring || ch.acq == .unmatched) && ch.generator.isSome

/-- The laws of a channel's posted request: each kind is posted only in the states that post it or keep it (R84 to R102). A
release with a hold option stands only in SEEKING and MEASURING (R130). -/
def Channel.requestLaw (ch : Channel) : Bool :=
  match ch.request with
  | none => true
  | some (.acquire _) => ch.acq == .measuring || ch.acq == .unmatched
  | some (.rematch _) => ch.acq == .drifting
  | some (.rebuild _) => ch.acq == .locked || ch.acq == .drifting
  | some (.release hold) =>
    ch.acq != .locked && ch.acq != .drifting && ch.acq != .forced &&
      (hold == .none || ch.acq == .seeking || ch.acq == .measuring)

/-- The laws of a channel's timers: the vertical-loss timer runs in LOCKED alone (R91), the line-loss timer never in OFF, FROZEN
or FORCED (R98), the hold-limit timer only while the generator is RUNNING (R136). -/
def Channel.timerLaw (ch : Channel) : Bool :=
  (ch.verticalLoss.isSome == (ch.acq == .locked)) &&
    (ch.lineLoss.isNone || (ch.acq != .off && ch.acq != .frozen && ch.acq != .forced)) &&
    (ch.holdLimit.isNone || ch.generator.isSome)

/-- The law of the re-verify mark: it waits only for a holding binding, and not in FROZEN or FORCED, which act on it at once
(R82, R105, R113). -/
def Channel.markLaw (ch : Channel) : Bool :=
  ch.reverify.isNone || (ch.holding.isSome && ch.acq != .frozen && ch.acq != .forced)

/-- The law of an OFF channel: its front end and record are cleared, its shortlist is empty and no mark is set (R78, R101). -/
def Channel.offLaw (ch : Channel) : Bool :=
  ch.acq != .off ||
    (ch.record == MeasureRecord.cleared && ch.front == FrontEnd.cleared && ch.shortlist.isEmpty && !ch.stale && !ch.rematch)

/-- The law of the pins SUB_LM and SUB_VM (R128, R133, R134, R139): while the generator is QUIET both stand at the inactive levels of
their last-used polarities; while it is RUNNING the last-used polarities are those of its frame setting, and while it rests both
pins stand at their inactive levels. -/
def Channel.pinLaw (ch : Channel) : Bool :=
  let inactive := ch.subLm == !ch.lastLm.active && ch.subVm == !ch.lastVm.active
  match ch.generator with
  | none => inactive
  | some g =>
    g.setting.linePolarity == ch.lastLm && g.setting.verticalPolarity == ch.lastVm && (g.phase != .resting || inactive)

/-- The laws of one channel. -/
def Channel.lawful (ch : Channel) : Bool :=
  ch.bindingLaw && ch.requestLaw && ch.timerLaw && ch.markLaw && ch.offLaw && ch.pinLaw

/-- The laws of the six channels. -/
def State.channelsLawful (s : State) : Bool := s.chans.toList.all Channel.lawful

/-! ## Ranges of a channel's settings and measurement (R75, R79) -/

/-- Whether the settings lie in their ranges (R79). -/
def Settings.inRange (v : Settings) : Bool :=
  blockSizeOk v.blockSize && (within v.stabilityWindow 1 63).isSome && (within v.stabilityTarget 16 255).isSome &&
    (within v.frameTarget 2 8).isSome && v.marginTicks ≤ 255 && v.marginLines ≤ 15 &&
    (within v.blockReleaseRun 1 15).isSome && (within v.frameReleaseRun 1 7).isSome && v.neighbourhood ≤ 4095 &&
    (within v.lineLoss 1 255).isSome && (within v.verticalLoss 1 255).isSome && v.holdLimit ≤ 255

/-- Whether the measurement record lies in its ranges (R75). -/
def MeasureRecord.inRange (r : MeasureRecord) : Bool :=
  (r.linePeriod == 0 || (64 ≤ r.linePeriod && r.linePeriod ≤ 65535)) && r.frameLines ≤ 8189 && r.syncWidth ≤ 4095 &&
    r.frameRun ≤ 255 && r.stabilityRun ≤ 255 && r.outBlockRun ≤ 15 && r.outFrameRun ≤ 7

/-- Whether what the front end holds lies in the ranges its rules give: a block of one of the five sizes, unfinished, with
periods in range (R66, R68, R69), and a predecessor interval in range (R72). -/
def FrontEnd.inRange (f : FrontEnd) : Bool :=
  (match f.block with
    | .running size count sum => blockSizeOk size && count < size && 64 * count ≤ sum && sum ≤ 65535 * count
    | _ => true) &&
    (f.blockDone.all fun a => 64 ≤ a && a ≤ 65535) && (f.prevInterval.all fun v => 1 ≤ v && v ≤ 4095) &&
    (f.width.all fun w => w ≤ 4095)

/-- Whether a channel's settings, measurement record and front end lie in their ranges. -/
def Channel.inRange (ch : Channel) : Bool := ch.settings.inRange && ch.record.inRange && ch.front.inRange

/-- Whether every channel's values lie in their ranges. -/
def State.channelsInRange (s : State) : Bool := s.chans.toList.all Channel.inRange

/-! ## Announcements (R140, R147) -/

/-- The laws of the serializer: the announced state of every channel is the one the channel forms, and a pending entry holds
that state with its sequence number (R107, R140, R141, R147). -/
def State.announceLawful (s : State) : Bool :=
  channels.all fun c =>
    (s.ann c).announced == (s.ch c).announced &&
      ((s.ann c).entry.all fun e => e == ((s.ann c).announced, (s.ann c).seq))

/-! ## The catalogue (R2, R8, R9, R11, R16, R17, R23, R110, R117) -/

/-- Whether a list stands in index order, each slot strictly before every later one (R17), with no two equal keys (R16). -/
def State.keysRising (s : State) : List Nat → Bool
  | [] => true
  | n :: l => (l.all fun m => (s.keyAt n).less (s.keyAt m)) && s.keysRising l

/-- The index law: it holds exactly the LIVE slots, in index order, and no two share a match key (R16, R17). -/
def State.indexLaw (s : State) : Bool :=
  (s.index.all fun n => n < 96 && (s.slot n).state == .live) &&
    ((List.range 96).all fun n => (s.slot n).state != .live || s.index.contains n) && s.keysRising s.index

/-- Whether every field that a working body gives a value has one in its range; SCAN, the polarities, PROTECT and TAG have no value
outside theirs (R10). -/
def WorkBody.inRange (w : WorkBody) : Bool :=
  (w.linePeriod.all fun n => 64 ≤ n && n ≤ 65535) && w.lineTol ≤ 1023 && (w.frameLines.all fun n => 16 ≤ n && n ≤ 4095) &&
    w.frameTol ≤ 63 && (w.syncWidth.all fun v => 1 ≤ v.1 && v.1 ≤ v.2 && v.2 ≤ 31) &&
    (w.verifyBlock.all fun n => 8 ≤ n && n ≤ 255) && w.priority ≤ 3 && w.cls ≤ 7

/-- Whether every field of a record body has a value in its range (R10). -/
def Body.inRange (b : Body) : Bool := b.toWork.inRange

/-- The law of a slot: a FREE slot has binding count 0, edit mark none and no body (R5, R8; the blank body is entry 13); an occupied
one has a body whose fields lie in the ranges of R10 and satisfy the conditions of R11; a RETIRING one has edit mark none (R9). -/
def Slot.lawful (v : Slot) : Bool :=
  match v.state with
  | .free => v.count == 0 && v.mark.isNone && v.body == Body.blank
  | .live => v.body.inRange && v.body.consistent
  | .retiring => v.body.inRange && v.body.consistent && v.mark.isNone

/-- The edit law: an OPEN context's target is LIVE and marked with its id, its working body's values lie in the ranges of R10, and a
slot's edit mark names an OPEN context whose target is the record (R9, R23, R27). -/
def State.editLaw (s : State) : Bool :=
  (([0, 1, 2, 3] : List (Fin 4)).all fun id =>
    (s.edit id).all fun e => e.body.inRange && e.target.all fun h => s.currentLive h && (s.record h).mark == some id) &&
    ((List.range 96).all fun n =>
      (s.slot n).mark.all fun id => (s.edit id).any fun e => e.target == some (s.handleOf n))

/-- The pending-retire law: the set holds exactly the RETIRING records, each once, at most eight, and each has a binding count
of at least one (R117). -/
def State.retireLaw (s : State) : Bool :=
  (s.retiring.all fun e => s.currentRetiring e.handle) && (s.retiring.map RetireEntry.handle).Nodup &&
    s.retiring.length ≤ Config.retireCapacity &&
    ((List.range 96).all fun n => (s.slot n).state != .retiring ||
      ((s.retiring.any fun e => e.handle == s.handleOf n) && 1 ≤ (s.slot n).count))

/-- The number of channels whose binding, holding or departing, names a handle (R110). -/
def State.boundTo (s : State) (h : Handle) : Nat := channels.countP fun c => (s.ch c).bound == some h

/-- The binding law: every binding names a current handle, and every record's binding count is the number of channels whose
binding names it (R110). -/
def State.bindingLaw (s : State) : Bool :=
  (channels.all fun c => (s.ch c).bound.all s.current) &&
    ((List.range 96).all fun n => (s.slot n).state == .free || (s.slot n).count == s.boundTo (s.handleOf n))

/-- The laws of the catalogue. -/
def State.catalogueLawful (s : State) : Bool :=
  s.indexLaw && s.slots.toList.all Slot.lawful && s.editLaw && s.retireLaw && s.bindingLaw

/-! ## Ports and resets (R149, R156, R160, R161) -/

/-- Whether a response may stand in a response buffer: at most 64 data bytes (R149), data only with DONE and PENDING, and
neither BUSY nor NOT_READY, which are states of the slot and not outcomes (R153, R156). -/
def Response.lawful (r : Response) : Bool :=
  r.data.length ≤ 64 && (r.data.isEmpty || r.status == .done || r.status == .pending) && r.status != .busy &&
    r.status != .notReady

/-- Whether what stands in a port's slot may stand there: a command the port accepts (R150, check 5) and does not take itself at once,
as it takes RESET DEVICE (R152), or a response that may stand in a response buffer. -/
def PortState.lawful (p : Port) (x : PortState) : Bool :=
  match x.slot with
  | .ready r => r.lawful
  | .executing _ cmd => cmd.allowedOn p && !cmd.byPort
  | _ => true

/-- The port laws, with that of a waiting full reset: its DONE stands unread in the host port's slot (R160). -/
def State.portsLawful (s : State) : Bool :=
  s.host.lawful .host && s.monitor.lawful .monitor &&
    (!s.resetWaiting ||
      match s.host.slot with
      | .ready r => r.status == .done && r.data.isEmpty
      | _ => false)

/-- The law of a part held in reset: every block stands at its full reset value (R161). What a read that the reset cut was returning
is the model's own (entry 23). -/
def State.resetLaw (s : State) : Bool :=
  !s.resetLow ||
    s == { s.fullReset with
      host := { PortState.initial with lost := s.host.lost }, monitor := { PortState.initial with lost := s.monitor.lost } }

/-- All the laws together. -/
def State.lawful (s : State) : Bool :=
  s.channelsLawful && s.channelsInRange && s.announceLawful && s.catalogueLawful && s.portsLawful && s.resetLaw

end Sys2Proof.Machine
end

