-- ==== Sys2Proof/Certificates/Slice0/Obligations.lean ====
section
/-! DEFINITION. The statements for the provers. The first part, in namespace Sys2Proof.Claims, says in the rules' words what the
next state of a command is; the second part states the obligations. -/

namespace Sys2Proof.Claims

open Sys2Proof.Machine

/-! ## Ports -/

/-- The command stands in EXECUTING on the port (R149). -/
abbrev executing (s : State) (p : Port) (tag : Byte) (cmd : Cmd) : Prop := (s.port p).slot = .executing tag cmd

/-- The arbiter grants the port (R41). -/
abbrev portGranted (s : State) (p : Port) : Prop := s.arbiter = some (portRequester p)

/-- The state with the port as the requester granted last (R41). -/
def grantTo (s : State) (p : Port) : State := { s with granted := portRequester p }

/-- The state with a response in the port's buffer and its slot READY (R152). -/
def answered (s : State) (p : Port) (tag : Byte) (status : Status) (data : List Byte) : State :=
  s.setPort p { s.port p with slot := .ready { status := status, tag := tag, data := data } }

/-- What every row's meaning leaves: everything but the slots, the index, the edit contexts, the pending-retire set, the channels,
the serializer, the event unit, the ports and the requester granted last. -/
abbrev sameOutside (s t : State) : Prop :=
  t.time = s.time ∧ t.resetLow = s.resetLow ∧ t.resetWaiting = s.resetWaiting ∧ t.maLevel = s.maLevel ∧
    t.monitorAddress = s.monitorAddress ∧ t.linkRest = s.linkRest ∧ t.pending = s.pending

/-- The NOT_READY of a read that began before its slot held a response: with the tag of the command that was executing, or 0
(R153). -/
def notReadyOf (x : CommandSlot) : Response :=
  { status := .notReady
    tag := match x with
      | .executing tag _ => tag
      | .ready r => r.tag
      | _ => 0
    data := [] }

/-- What a read returns by the slot and by whether it was READY when the read began, none where it cannot have begun so (R153). -/
def readBegun (x : CommandSlot) (ready : Bool) : Option Response :=
  match x, ready with
  | x, false => some (notReadyOf x)
  | .ready r, true => some r
  | _, true => none

/-- The bytes of a read: the response frame, then 0x00 for each further byte (R154, R155). -/
def bytesOf (r : Response) (count : Nat) : List Byte := (responseFrame r ++ List.replicate count 0x00).take count

/-- The bytes of a read that a full reset cut after some bytes: 0x00 for each further byte (R160). -/
def cutBytesOf (r : Response) (cut count : Nat) : List Byte := (bytesOf r cut ++ List.replicate count 0x00).take count

/-- The commands the catalogue controller serves, by their codes (R40, R152, R164). -/
def controllerCodes : List Byte := [0x01, 0x10, 0x11, 0x12, 0x13, 0x14, 0x15, 0x16, 0x17, 0x18, 0x19, 0x24]

/-- Whether a requester has a request posted: a port a command of the controller in EXECUTING, a channel a request in its slot
(R40). Requester 0 is the host port, 1 the monitor port, 2 to 7 are CH0 to CH5. -/
def hasPosted (s : State) (r : Fin 8) : Prop :=
  match r with
  | 0 => ∃ tag cmd, s.host.slot = .executing tag cmd ∧ cmd.code ∈ controllerCodes
  | 1 => ∃ tag cmd, s.monitor.slot = .executing tag cmd ∧ cmd.code ∈ controllerCodes
  | ⟨n + 2, h⟩ => (s.ch ⟨n, by omega⟩).request ≠ none

/-- How many requesters stand between the one granted last and another in the rotating order (R41). -/
def turnsAfter (granted r : Fin 8) : Nat := (r - granted - 1).val

/-! ## Reads of the catalogue (R19, R20, R51) -/

/-- READ RECORD (R19). -/
def readRecordNext (p : Port) (tag : Byte) (h : Handle) (s : State) : State :=
  if 95 < h.slot.toNat then answered (grantTo s p) p tag .badHandle []
  else if s.current h then
    answered (grantTo s p) p tag .done
      ([h.slot, h.gen, (if (s.record h).state = .live then 1 else 2), (s.record h).rev, BitVec.ofNat 8 (s.record h).count,
        (match (s.record h).mark with
          | some id => BitVec.ofNat 8 id.val
          | none => 0xFF)] ++ (s.record h).body.toWork.encode)
  else answered (grantTo s p) p tag .stale []

/-- One entry of LIST RECORDS: handle, revision and match key (R20). -/
def listed (s : State) (n : Nat) : List Byte :=
  [BitVec.ofNat 8 n, (s.slot n).gen, (s.slot n).rev] ++ bytes2 (s.slot n).body.linePeriod ++
    bytes2 (s.slot n).body.frameLines ++ [if (s.slot n).body.scan = .progressive then 1 else 2]

/-- The data of LIST RECORDS for the records that follow its parameter: their count up to four, the end indication, and the first
four (R20). -/
def listing (s : State) (l : List Nat) : List Byte :=
  [BitVec.ofNat 8 (min l.length 4), (if l.length ≤ 4 then 1 else 0)] ++ (l.take 4).flatMap (listed s)

/-- Whether a match key stands after a triple of line period, frame lines and scan in the order of R15. -/
def keyAfter (k : Key) (lp fl : Nat) (scan : Scan) : Bool :=
  lp < k.linePeriod ||
    (lp == k.linePeriod &&
      (fl < k.frameLines || (fl == k.frameLines && (scan == .progressive && k.scan == .interlaced))))

/-- LIST RECORDS with an after-key (R20). -/
def listAfterNext (p : Port) (tag sel : Byte) (lp fl : BitVec 16) (scan : Byte) (s : State) : State :=
  if sel = 1 ∧ scan = 1 then
    answered (grantTo s p) p tag .done
      (listing s (s.index.filter fun n => keyAfter (s.keyAt n) lp.toNat fl.toNat .progressive))
  else if sel = 1 ∧ scan = 2 then
    answered (grantTo s p) p tag .done
      (listing s (s.index.filter fun n => keyAfter (s.keyAt n) lp.toNat fl.toNat .interlaced))
  else answered (grantTo s p) p tag .range []

/-- The scan a code stands for, where it is 1 or 2 (R164). -/
def scanCoded (code : Byte) : Scan := if code = 1 then .progressive else .interlaced

/-- The polarity a code stands for, where it is 1 or 2 (R164). -/
def polarityCoded (code : Byte) : Polarity := if code = 1 then .positive else .negative

/-- Whether a code is 1 or 2. -/
def coded (code : Byte) : Bool := code == 1 || code == 2

/-- The measurement FIND FORMAT presents (R51). -/
def presented (lp fl : BitVec 16) (scan : Byte) (sw : BitVec 16) (lpol vpol : Byte) : Measurement :=
  { linePeriod := lp.toNat, frameLines := fl.toNat, scan := some (scanCoded scan), syncWidth := sw.toNat,
    linePolarity := some (polarityCoded lpol), verticalPolarity := some (polarityCoded vpol) }

/-- Whether body `a` is selected over body `b` on the first three criteria of R50. -/
def better (m : Measurement) (a b : Body) : Prop :=
  b.priority < a.priority ∨
    (b.priority = a.priority ∧
      ((m.linePeriod - a.linePeriod : Int).natAbs < (m.linePeriod - b.linePeriod : Int).natAbs ∨
        ((m.linePeriod - a.linePeriod : Int).natAbs = (m.linePeriod - b.linePeriod : Int).natAbs ∧
          (m.frameLines - a.frameLines : Int).natAbs < (m.frameLines - b.frameLines : Int).natAbs)))

/-! ## Editing (R25 to R38) -/

/-- The lowest-numbered FREE context. -/
def firstFree (s : State) : Option (Fin 4) :=
  if (s.edit 0).isNone then some 0 else if (s.edit 1).isNone then some 1 else if (s.edit 2).isNone then some 2
  else if (s.edit 3).isNone then some 3 else none

/-- A context just opened (R25, R26). -/
def opened (s : State) (target : Option Handle) (body : WorkBody) : EditContext :=
  { target := target, body := body, changed := 0, lease := { units := s.time.lease, elapsed := 0 } }

/-- OPEN EDIT with a handle (R25). -/
def openEditNext (p : Port) (tag sel : Byte) (h : Handle) (s : State) : State :=
  if sel ≠ 1 then answered (grantTo s p) p tag .range []
  else if 95 < h.slot.toNat then answered (grantTo s p) p tag .badHandle []
  else if s.current h = false then answered (grantTo s p) p tag .stale []
  else if (s.record h).state = .retiring then answered (grantTo s p) p tag .state []
  else if (s.record h).mark.isSome then answered (grantTo s p) p tag .editOpen []
  else match firstFree s with
    | none => answered (grantTo s p) p tag .editFull []
    | some id =>
      answered (((grantTo s p).setEdit id (some (opened s (some h) (s.record h).body.toWork))).setSlot h.slot.toNat
        { s.record h with mark := some id }) p tag .done [BitVec.ofNat 8 id.val, (s.record h).rev]

/-- OPEN EDIT with NEW (R26). -/
def openNewNext (p : Port) (tag : Byte) (s : State) : State :=
  match firstFree s with
  | none => answered (grantTo s p) p tag .editFull []
  | some id =>
    answered ((grantTo s p).setEdit id (some (opened s none
      { linePeriod := none, lineTol := 0, frameLines := none, frameTol := 0, scan := .progressive, syncWidth := none,
        linePolarity := none, verticalPolarity := none, verifyBlock := none, priority := 1, cls := 0, protect := false,
        tag := 0 }))) p tag .done [BitVec.ofNat 8 id.val, 0]

/-- A context with its lease loaded from the setting in force (R37). -/
def leaseLoaded (s : State) (e : EditContext) : EditContext := { e with lease := { units := s.time.lease, elapsed := 0 } }

/-- The thirteen fields in the order of R10, numbered 1 to 13 (R164). -/
def fieldNumbered : List Field :=
  [.linePeriod, .lineTol, .frameLines, .frameTol, .scan, .syncWidth, .linePolarity, .verticalPolarity, .verifyBlock, .priority,
   .cls, .protect, .tag]

/-- Whether a value lies in the range of a field (R10, R27). -/
def fieldAccepts (f : Field) (n : Nat) : Bool :=
  match f with
  | .linePeriod => 64 ≤ n && n ≤ 65535
  | .lineTol => n ≤ 1023
  | .frameLines => 16 ≤ n && n ≤ 4095
  | .frameTol => n ≤ 63
  | .scan | .linePolarity | .verticalPolarity => n == 1 || n == 2
  | .syncWidth => 1 ≤ n / 256 && n / 256 ≤ n % 256 && n % 256 ≤ 31
  | .verifyBlock => 8 ≤ n && n ≤ 255
  | .priority => n ≤ 3
  | .cls => n ≤ 7
  | .protect => n ≤ 1
  | .tag => true

/-- A working body whose field holds a value of the field's range (R27). -/
def fieldGiven (w : WorkBody) (f : Field) (n : Nat) : WorkBody :=
  match f with
  | .linePeriod => { w with linePeriod := some n }
  | .lineTol => { w with lineTol := n }
  | .frameLines => { w with frameLines := some n }
  | .frameTol => { w with frameTol := n }
  | .scan => { w with scan := if n = 1 then .progressive else .interlaced }
  | .syncWidth => { w with syncWidth := some (n / 256, n % 256) }
  | .linePolarity => { w with linePolarity := some (if n = 1 then .positive else .negative) }
  | .verticalPolarity => { w with verticalPolarity := some (if n = 1 then .positive else .negative) }
  | .verifyBlock => { w with verifyBlock := some n }
  | .priority => { w with priority := n }
  | .cls => { w with cls := n }
  | .protect => { w with protect := n == 1 }
  | .tag => { w with tag := BitVec.ofNat 16 n }

/-- A working body whose field is back in the state it has in a NEW context (R28). -/
def fieldCleared (w : WorkBody) (f : Field) : WorkBody :=
  match f with
  | .linePeriod => { w with linePeriod := none }
  | .lineTol => { w with lineTol := 0 }
  | .frameLines => { w with frameLines := none }
  | .frameTol => { w with frameTol := 0 }
  | .scan => { w with scan := .progressive }
  | .syncWidth => { w with syncWidth := none }
  | .linePolarity => { w with linePolarity := none }
  | .verticalPolarity => { w with verticalPolarity := none }
  | .verifyBlock => { w with verifyBlock := none }
  | .priority => { w with priority := 1 }
  | .cls => { w with cls := 0 }
  | .protect => { w with protect := false }
  | .tag => { w with tag := 0 }

/-- The OPEN context an edit id names, none where it names none (R24). -/
def openContext (s : State) (id : Byte) : Option (Fin 4 × EditContext) :=
  if h : id.toNat < 4 then (s.edit ⟨id.toNat, h⟩).map fun e => (⟨id.toNat, h⟩, e) else none

/-- SET FIELD (R27, R29, R37). -/
def setFieldNext (p : Port) (tag id field : Byte) (value : BitVec 16) (s : State) : State :=
  match openContext s id with
  | none => answered (grantTo s p) p tag .noEdit []
  | some (k, e) =>
    match (none :: fieldNumbered.map some)[field.toNat]? with
    | some (some f) =>
      if fieldAccepts f value.toNat then
        answered ((grantTo s p).setEdit k (some { leaseLoaded s e with
          body := fieldGiven e.body f value.toNat, changed := e.changed ||| BitVec.twoPow 13 (field.toNat - 1) })) p tag .done []
      else answered ((grantTo s p).setEdit k (some (leaseLoaded s e))) p tag .range []
    | _ => answered ((grantTo s p).setEdit k (some (leaseLoaded s e))) p tag .range []

/-- CLEAR FIELD (R28, R29, R37). -/
def clearFieldNext (p : Port) (tag id field : Byte) (s : State) : State :=
  match openContext s id with
  | none => answered (grantTo s p) p tag .noEdit []
  | some (k, e) =>
    match (none :: fieldNumbered.map some)[field.toNat]? with
    | some (some f) =>
      answered ((grantTo s p).setEdit k (some { leaseLoaded s e with
        body := fieldCleared e.body f, changed := e.changed ||| BitVec.twoPow 13 (field.toNat - 1) })) p tag .done []
    | _ => answered ((grantTo s p).setEdit k (some (leaseLoaded s e))) p tag .range []

/-- READ EDIT (R30): target, changed-field set and working body, with the lease reloaded. A NEW target's handle bytes are entry 33. -/
def readEditNext (p : Port) (tag id : Byte) (s : State) : State :=
  match openContext s id with
  | none => answered (grantTo s p) p tag .noEdit []
  | some (k, e) =>
    answered ((grantTo s p).setEdit k (some (leaseLoaded s e))) p tag .done
      ((match e.target with
        | none => [0, 0, 0]
        | some h => [1, h.slot, h.gen]) ++ bytes2 e.changed.toNat ++ e.body.encode)

/-- A context gone FREE with the edit mark of its target cleared (R9, R31, R38). -/
def contextFreed (s : State) (k : Fin 4) (e : EditContext) : State :=
  match e.target with
  | none => s.setEdit k none
  | some h => (s.setSlot h.slot.toNat { s.record h with mark := none }).setEdit k none

/-- DROP EDIT (R31). -/
def dropEditNext (p : Port) (tag id : Byte) (s : State) : State :=
  match openContext s id with
  | none => answered (grantTo s p) p tag .noEdit []
  | some (k, e) => answered (contextFreed (grantTo s p) k e) p tag .done []

/-- Whether a LIVE record other than the one in slot `own` has a match key (R16). -/
def keyHeld (s : State) (k : Key) (own : Option Nat) : Bool :=
  (List.range 96).any fun n => (s.slot n).state == .live && (s.slot n).body.key == k && some n != own

/-- The status of the first of the checks 2 to 5 of R32 that an OPEN context fails, none where it passes all. -/
def commitError (s : State) (e : EditContext) : Option Status :=
  match e.body.linePeriod, e.body.frameLines with
  | some lp, some fl =>
    if lp / 4 ≤ e.body.lineTol ∨ fl / 4 ≤ e.body.frameTol ∨ (e.body.scan = .interlaced ∧ fl % 2 = 0) then some .inconsistent
    else if e.target = none ∧ (List.range 96).all (fun n => (s.slot n).state != .free) then some .catalogueFull
    else if keyHeld s ⟨lp, fl, e.body.scan⟩ (e.target.map fun h => h.slot.toNat) then some .duplicate
    else none
  | _, _ => some .inconsistent

/-! ## What a commit does to a channel (R36, R112, R113) -/

/-- Whether the shortlist holds the record in a slot, or its line period lies near the channel's valid measurement (R36). -/
def concerned (s : State) (n : Nat) (ch : Channel) : Bool :=
  (ch.shortlist.any fun e => e.handle == s.handleOf n) ||
    (ch.record.valid &&
      ((s.slot n).body.linePeriod - ch.record.linePeriod : Int).natAbs ≤ ch.settings.neighbourhood)

/-- A channel after the notice of a commit of the record in slot `n`, with the marks of R36. A shortlist stale mark is not kept in
OFF, SEEKING and FROZEN (R36, R84, R96). -/
def marked (s : State) (n : Nat) (ch : Channel) : Channel :=
  { ch with
    stale := ch.stale ||
      (concerned s n ch && ch.acq != .off && ch.acq != .seeking && ch.acq != .frozen)
    rematch := ch.rematch || (ch.acq == .unmatched && ch.settings.mode == .track) }

/-- Whether a channel's holding binding names the record in a slot. -/
def holds (s : State) (n : Nat) (ch : Channel) : Bool :=
  match ch.binding with
  | .holding b => b.handle == s.handleOf n
  | _ => false

/-- A channel after the notice of an amendment of the record in slot `n`: FROZEN and FORCED take it up at once (R113), every other
state keeps the re-verify mark with the pending body and revision (R36). -/
def amended (s : State) (n : Nat) (ch : Channel) : Channel :=
  match ch.binding with
  | .holding b =>
    if b.handle == s.handleOf n then
      if ch.acq = .frozen ∨ ch.acq = .forced then
        { ch with
          binding := .holding { b with body := (s.slot n).body, revSeen := (s.slot n).rev }, reverify := none }
      else { ch with reverify := some ((s.slot n).body, (s.slot n).rev) }
    else ch
  | _ => ch

end Sys2Proof.Claims

namespace Sys2Proof.Claims

open Sys2Proof.Machine

/-! ## Binding counts and retirement (R110, R114 to R125) -/

/-- The counts of a serving that releases a binding to `bound`, if any, and binds to `h`: unchanged where both name one record
(R56, R110). -/
def moveCount (s : State) (bound : Option Handle) (h : Handle) : State :=
  match bound with
  | none => s.countUp h
  | some q => if q = h then s else (s.countDown q).countUp h

/-- The counts of a serving that releases a binding to `bound`, if any (R110). -/
def dropCount (s : State) (bound : Option Handle) : State :=
  match bound with
  | none => s
  | some q => s.countDown q

/-- Whether the record a released binding names is RETIRING (R53, R55). -/
def wasRetiring (s : State) (bound : Option Handle) : Bool :=
  match bound with
  | none => false
  | some q => s.current q && (s.record q).state == .retiring

/-- The status of the first check of R114 that fails, none where the retirement is accepted. -/
def retireError (s : State) (h : Handle) : Option Status :=
  if 95 < h.slot.toNat then some .badHandle
  else if s.current h = false then some .stale
  else if (s.record h).state = .retiring then some .state
  else if (s.record h).body.protect then some .protectedRecord
  else if (s.record h).mark.isSome then some .editOpen
  else if 0 < (s.record h).count ∧ 8 ≤ s.retiring.length then some .retireFull
  else none

/-- A slot gone FREE: its generation counts on and its record ceases to exist (R5). -/
def freed (v : Slot) : Slot :=
  { state := .free, gen := v.gen + 1, rev := v.rev, count := 0, mark := none, body := Body.blank }

/-- RETIRE RECORD refused (R114), or accepted with binding count 0 (R115). -/
def retireAtOnceNext (p : Port) (tag : Byte) (h : Handle) (s : State) : State :=
  match retireError s h with
  | some e => answered (grantTo s p) p tag e []
  | none =>
    answered { (grantTo s p).setSlot h.slot.toNat (freed (s.record h)) with
      index := s.index.filter fun n => n != h.slot.toNat } p tag .done [h.slot, h.gen]

/-- Whether a retire notice releases a channel's binding at once: FROZEN, FORCED, and a hold (R119, R120). -/
def letsGo (h : Handle) (ch : Channel) : Bool :=
  match ch.binding with
  | .holding b => b.handle == h && (b.origin == .hold || ch.acq == .frozen || ch.acq == .forced)
  | _ => false

/-! ## A channel's state by the rules of chapters 5 and 7 -/

/-- The partial clearing of R78 and entry to SEEKING: learned polarities kept, everything in progress abandoned, loss timers
stopped, shortlist stale and rematch marks clear. -/
def seeking (ch : Channel) : Channel :=
  { ch with
    acq := .seeking, stale := false, rematch := false, lineLoss := none, verticalLoss := none
    record :=
      { valid := false, linePeriod := 0, frameLines := 0, scan := none, syncWidth := 0, linePolarity := ch.front.lmPolarity,
        verticalPolarity := ch.front.vmPolarity, frameRun := 0, stabilityRun := 0, outBlockRun := 0, outFrameRun := 0 }
    front :=
      { FrontEnd.cleared with
        lmPolarity := ch.front.lmPolarity, vmPolarity := ch.front.vmPolarity, lmOpposite := ch.front.lmOpposite,
        vmOpposite := ch.front.vmOpposite } }

/-- The end of a hold at the generator, where it is RUNNING (R133, R138). -/
def holdEnded (ch : Channel) : Channel :=
  if ch.generator.isSome then
    { ch with
      generator := none, holdLimit := none, reverify := none, subLm := ch.lastLm == .negative,
      subVm := ch.lastVm == .negative }
  else ch

/-- A posted match, rematch or shortlist rebuild withdrawn (R44). -/
def withdrawn (ch : Channel) : Channel :=
  match ch.request with
  | some (.release _) => ch
  | _ => { ch with request := none }

/-- The holding binding departing through a release request posted with a hold option (R82). -/
def departed (ch : Channel) (b : Binding) (cause : ReleaseCause) (hold : HoldOption) : Channel :=
  { ch with
    binding := .departing { handle := b.handle, origin := b.origin, revSeen := b.revSeen, cause := cause }
    request := some (.release hold)
    reverify := none }

/-- The withdrawals and releases of STOP, REARM and a channel reset (R44, R82, R101 steps 1 and 2). -/
def quieted (ch : Channel) : Channel :=
  match ch.binding, ch.request with
  | .holding b, _ => departed ch b .quiet .none
  | .departing d, _ => { ch with binding := .departing { d with cause := .quiet }, request := some (.release .none) }
  | .none, some (.release _) => { ch with request := some (.release .none) }
  | .none, _ => { ch with request := none }

/-- Steps 1 to 5 of R101. -/
def halted (ch : Channel) : Channel :=
  { holdEnded (quieted ch) with
    shortlist := [], reverify := none, stale := false, rematch := false, lineLoss := none, verticalLoss := none }

/-- A channel stopped (R101). -/
def stopped (ch : Channel) : Channel :=
  { halted ch with acq := .off, record := MeasureRecord.cleared, front := FrontEnd.cleared }

/-- A channel that a retire notice makes let go of its binding at once: a held one keeps its state with its hold ended, a FROZEN one stays
FROZEN, and a FORCED one goes to SEEKING (R119, R120). -/
def letGo (ch : Channel) : Channel :=
  if ch.generator.isSome then { holdEnded ch with binding := .none }
  else if ch.acq = .frozen then { ch with binding := .none, reverify := none }
  else seeking { ch with binding := .none, reverify := none }

/-- START, STOP, REARM and FLUSH as their channel's engine takes them; BAD_CHANNEL above 5 (R152). -/
def onChannel (p : Port) (tag channel : Byte) (s : State) (f : Ch → State) : State :=
  if h : channel.toNat < 6 then f ⟨channel.toNat, h⟩ else answered s p tag .badChannel []

/-- START CHANNEL (R83): an OFF channel, which stands cleared, goes to SEEKING. -/
def startNext (p : Port) (tag channel : Byte) (s : State) : State :=
  onChannel p tag channel s fun c =>
    if (s.ch c).acq = .off then answered (s.setCh c { s.ch c with acq := .seeking }) p tag .done []
    else answered s p tag .channelState []

/-- STOP CHANNEL (R101). -/
def stopNext (p : Port) (tag channel : Byte) (s : State) : State :=
  onChannel p tag channel s fun c =>
    if (s.ch c).acq = .off then answered s p tag .done []
    else answered ((s.setCh c (stopped (s.ch c))).handOn c) p tag .done []

/-- REARM CHANNEL (R102). -/
def rearmNext (p : Port) (tag channel : Byte) (s : State) : State :=
  onChannel p tag channel s fun c =>
    if (s.ch c).acq = .off then answered s p tag .channelState []
    else answered ((s.setCh c (seeking (halted (s.ch c)))).handOn c) p tag .done []

/-- FLUSH SHORTLIST (R103). -/
def flushNext (p : Port) (tag channel : Byte) (s : State) : State :=
  onChannel p tag channel s fun c =>
    answered (s.setCh c { s.ch c with
      shortlist := [], stale := if (s.ch c).acq = .locked then true else (s.ch c).stale }) p tag .done []

/-- Whether every value CONFIGURE CHANNEL carries lies in its range (R79, R80, R164). -/
def settingsAccepted (r : RawSettings) : Bool :=
  (r.mode == 1 || r.mode == 2) && [8, 16, 32, 64, 128].contains r.blockSize.toNat && 1 ≤ r.stabilityWindow.toNat &&
    r.stabilityWindow.toNat ≤ 63 && 16 ≤ r.stabilityTarget.toNat && 2 ≤ r.frameTarget.toNat && r.frameTarget.toNat ≤ 8 &&
    r.marginLines.toNat ≤ 15 && 1 ≤ r.blockReleaseRun.toNat && r.blockReleaseRun.toNat ≤ 15 &&
    1 ≤ r.frameReleaseRun.toNat && r.frameReleaseRun.toNat ≤ 7 && r.neighbourhood.toNat ≤ 4095 && 1 ≤ r.lineLoss.toNat &&
    1 ≤ r.verticalLoss.toNat && r.holdPolicy.toNat ≤ 2 && r.holdPresent.toNat ≤ 1

/-- The sixteen settings CONFIGURE CHANNEL gives, in the order of R79. -/
def settingsGiven (r : RawSettings) : Settings :=
  { mode := if r.mode = 1 then .track else .oneShot, classMask := r.classMask, blockSize := r.blockSize.toNat,
    stabilityWindow := r.stabilityWindow.toNat, stabilityTarget := r.stabilityTarget.toNat,
    frameTarget := r.frameTarget.toNat, marginTicks := r.marginTicks.toNat, marginLines := r.marginLines.toNat,
    blockReleaseRun := r.blockReleaseRun.toNat, frameReleaseRun := r.frameReleaseRun.toNat,
    neighbourhood := r.neighbourhood.toNat, lineLoss := r.lineLoss.toNat, verticalLoss := r.verticalLoss.toNat,
    holdPolicy := if r.holdPolicy = 0 then .none else if r.holdPolicy = 1 then .last else .fixed,
    holdRecord := if r.holdPresent = 1 then some r.holdRecord else none, holdLimit := r.holdLimit.toNat }

/-- CONFIGURE CHANNEL (R80). -/
def configureNext (p : Port) (tag channel : Byte) (r : RawSettings) (s : State) : State :=
  onChannel p tag channel s fun c =>
    if (s.ch c).acq ≠ .off then answered s p tag .channelState []
    else if settingsAccepted r then answered (s.setCh c { s.ch c with settings := settingsGiven r }) p tag .done []
    else answered s p tag .range []

/-- Block formation begun, as on entry to MEASURING (R84, R97). -/
def forming (ch : Channel) : Channel :=
  { ch with
    record := { ch.record with frameRun := 0 }
    front := { ch.front with block := .awaitLine, prevAverage := none, blockSeen := false, prevInterval := none } }

/-- The block in progress discarded where the effective block size has changed (R70). -/
def resizedFrom (ch : Channel) (before : Nat) : Channel :=
  if ch.effectiveBlock = before then ch
  else match ch.front.block with
    | .off => ch
    | _ => { ch with front := { ch.front with block := if ch.acq = .locked then .awaitVertical else .awaitLine } }

/-- The FORCE binding to a record (R56, R97, R109). -/
def forceBinding (s : State) (h : Handle) : Binding :=
  { handle := h, revSeen := (s.record h).rev, origin := .force, body := (s.record h).body }

/-- A channel forced (R97). -/
def forced (ch : Channel) (b : Binding) : Channel :=
  let ch1 := { holdEnded ch with
    acq := .forced, binding := .holding b, shortlist := [], request := none, reverify := none, stale := false,
    rematch := false, lineLoss := none, verticalLoss := none }
  let ch2 :=
    if ch.acq = .seeking ∨ ch.acq = .frozen then
      forming { ch1 with record := { ch1.record with
        linePolarity := ch.front.lmPolarity, verticalPolarity := ch.front.vmPolarity } }
    else ch1
  resizedFrom ch2 ch.effectiveBlock

/-- FORCE BINDING (R56). -/
def forceNext (p : Port) (tag channel : Byte) (h : Handle) (s : State) : State :=
  onChannel p tag channel (grantTo s p) fun c =>
    if (s.ch c).acq = .off then answered (grantTo s p) p tag .channelState []
    else if 95 < h.slot.toNat then answered (grantTo s p) p tag .badHandle []
    else if s.current h = false then answered (grantTo s p) p tag .stale []
    else if (s.record h).state = .retiring then answered (grantTo s p) p tag .state []
    else
      answered (((moveCount (grantTo s p) (s.ch c).bound h).setCh c (forced (s.ch c) (forceBinding s h))).handOn c) p tag
        .done []

/-! ## Requests (R52 to R55, R87, R95, R99, R130, R135) -/

/-- The channel is granted by the arbiter (R41). -/
abbrev channelGranted (s : State) (c : Ch) : Prop := s.arbiter = some (chRequester c)

/-- The state with a channel as the requester granted last (R41). -/
def grantCh (s : State) (c : Ch) : State := { s with granted := chRequester c }

/-- A MATCH or HOLD binding to a record at a grant (R109). -/
def boundAt (s : State) (h : Handle) (origin : Origin) : Binding :=
  { handle := h, revSeen := (s.record h).rev, origin := origin, body := (s.record h).body }

/-- A channel bound by a match or rematch result to a record: its marks are clear, its shortlist is rebuilt with the record as the
bound one, and a hold has ended (R52, R53, R87, R95, R135). -/
def bound (s : State) (ch : Channel) (h : Handle) (linePeriod : Nat) : Channel :=
  { holdEnded ch with
    binding := .holding (boundAt s h .found), shortlist := s.buildShortlist linePeriod ch.settings (some h), request := none,
    reverify := none, stale := false, rematch := false }

/-- Entry to LOCKED (R89). -/
def locked (ch : Channel) : Channel :=
  { ch with
    acq := .locked
    record := { ch.record with outBlockRun := 0, outFrameRun := 0 }
    front := { ch.front with block := .awaitVertical }
    verticalLoss := some { units := ch.settings.verticalLoss, elapsed := 0 } }

/-- Entry to FROZEN (R96). -/
def frozen (ch : Channel) : Channel :=
  { ch with
    acq := .frozen, lineLoss := none, verticalLoss := none, stale := false, rematch := false
    front :=
      { FrontEnd.cleared with
        lmPolarity := ch.front.lmPolarity, vmPolarity := ch.front.vmPolarity, lmOpposite := ch.front.lmOpposite,
        vmOpposite := ch.front.vmOpposite } }

/-- A FOUND match result (R52, R87, R135): HOLD_ENDED where a hold ended, then LOCK_GAINED. -/
def matchFoundNext (c : Ch) (m : Measurement) (n : Nat) (s : State) : State :=
  let ch := s.ch c
  let h := s.handleOf n
  let ch1 := bound s ch h m.linePeriod
  let s1 := (moveCount (grantCh s c) ch.bound h).setCh c (if ch.settings.mode = .track then locked ch1 else frozen ch1)
  let s2 := if ch.generator.isSome then s1.setFlag c .holdEnded else s1
  (s2.setFlag c .lockGained).handOn c

/-- A NONE match result (R52, R87, R135). -/
def matchNoneNext (c : Ch) (s : State) : State :=
  let ch := s.ch c
  let ch1 := { ch with request := none, shortlist := [] }
  if ch.settings.mode = .track then
    (((grantCh s c).setCh c { ch1 with acq := .unmatched }).setFlag c .unmatched).handOn c
  else
    let ch2 := match ch.binding with
      | .holding b => departed ch1 b .oneShotNone .none
      | _ => ch1
    let s1 := (grantCh s c).setCh c (frozen (holdEnded ch2))
    ((if ch.generator.isSome then s1.setFlag c .holdEnded else s1).setFlag c .unmatched).handOn c

/-- A REBOUND rematch result (R53, R95). -/
def reboundNext (c : Ch) (m : Measurement) (n : Nat) (s : State) : State :=
  let ch := s.ch c
  let h := s.handleOf n
  (((moveCount (grantCh s c) ch.bound h).setCh c (locked (bound s ch h m.linePeriod))).setFlag c .formatChanged).handOn c

/-- MEASURING by the release of a binding (R95): valid clear, frame run 0, no predecessor, no mark, no shortlist. -/
def released (ch : Channel) : Channel :=
  let ch1 := { holdEnded ch with
    acq := .measuring, binding := .none, shortlist := [], request := none, reverify := none, stale := false,
    rematch := false, verticalLoss := none
    record := { ch.record with valid := false, frameRun := 0 }
    front := { ch.front with prevInterval := none, blockSeen := false } }
  resizedFrom ch1 ch.effectiveBlock

/-- A RELEASED rematch result: LOCK_LOST, and BINDING_RELEASED where the record was RETIRING (R53, R95, R111). -/
def releasedNext (c : Ch) (s : State) : State :=
  let ch := s.ch c
  let s1 := ((dropCount (grantCh s c) ch.bound).setCh c (released ch)).setFlag c .lockLost
  (if wasRetiring s ch.bound then s1.setFlag c .bindingReleased else s1).handOn c

/-- SHORTLIST REBUILD served (R54); a DRIFTING channel that kept the need of a rematch posts it (R94). -/
def rebuildNext (c : Ch) (p : Nat) (s : State) : State :=
  let ch := s.ch c
  let ch1 := { ch with shortlist := s.buildShortlist p ch.settings ch.bound, request := none }
  (grantCh s c).setCh c
    (if ch.acq = .drifting ∧ ch.rematch then
      { ch1 with
        rematch := false
        request := some (.rematch
          { linePeriod := ch.record.linePeriod, frameLines := ch.record.frameLines, scan := ch.record.scan,
            syncWidth := ch.record.syncWidth, linePolarity := ch.record.linePolarity,
            verticalPolarity := ch.record.verticalPolarity }) }
    else ch1)

/-- The measurement record as a match or rematch carries it (R43). -/
def snapshotOf (ch : Channel) : Measurement :=
  { linePeriod := ch.record.linePeriod, frameLines := ch.record.frameLines, scan := ch.record.scan,
    syncWidth := ch.record.syncWidth, linePolarity := ch.record.linePolarity,
    verticalPolarity := ch.record.verticalPolarity }

/-- Completion of a measurement in MEASURING, where its three conditions hold (R86). -/
def completed (ch : Channel) : Channel :=
  if ch.acq = .measuring ∧ ch.settings.frameTarget ≤ ch.record.frameRun ∧ ch.front.blockSeen ∧ ch.request = none then
    { ch with request := some (.acquire (snapshotOf ch)), record := { ch.record with valid := true } }
  else ch

/-- The record that a release's hold option holds, none where it holds none (R55). -/
def heldAt (s : State) (ch : Channel) (hold : HoldOption) : Option Handle :=
  match hold, ch.binding with
  | .none, _ => none
  | .last, .departing d =>
    if s.currentLive d.handle ∧ (d.origin = .found ∨ d.origin = .hold) then some d.handle else none
  | .last, _ => none
  | .fixed (some f), _ => if (dropCount s ch.bound).currentLive f then some f else none
  | .fixed none, _ => none

/-- The frame setting of a body (R132). -/
def frameSettingOf (b : Body) : FrameSetting :=
  { linePeriod := b.linePeriod, frameLines := b.frameLines, scan := b.scan
    width := min (match b.syncWidth with | some (low, _) => low | none => 4)
      ((if b.scan = .progressive then b.frameLines else (b.frameLines - 1) / 2) - 1)
    linePolarity := b.linePolarity.getD .positive, verticalPolarity := b.verticalPolarity.getD .positive }

/-- A generator that takes a frame setting: its frame begins at once with both pins at their active levels, or, where a polarity
differs from the last-used one, both pins first rest at their new inactive levels (R130, R133, R134). -/
def generating (ch : Channel) (f : FrameSetting) : Channel :=
  if f.linePolarity = ch.lastLm ∧ f.verticalPolarity = ch.lastVm then
    { ch with
      generator := some { setting := f, phase := .generating, second := false, line := 0, tick := 0 }
      subLm := f.linePolarity == .positive, subVm := f.verticalPolarity == .positive }
  else
    { ch with
      generator := some { setting := f, phase := .resting, second := false, line := 0, tick := 0 }
      lastLm := f.linePolarity, lastVm := f.verticalPolarity
      subLm := f.linePolarity == .negative, subVm := f.verticalPolarity == .negative }

/-- Whether the result of a release sets flags at a channel: not in OFF, and not where the release is quiet (R99, R111). -/
def speaks (ch : Channel) : Bool :=
  ch.acq != .off &&
    match ch.binding with
    | .departing d => d.cause != .quiet
    | _ => true

/-- Whether a release result sets LOCK_LOST (R99). -/
def losesLock (ch : Channel) (held : Option Handle) : Bool :=
  match ch.binding with
  | .departing d => d.cause == .inputLoss && d.origin == .found && held != some d.handle
  | _ => false

/-- The counts, LOCK_LOST and BINDING_RELEASED of a release result (R55, R99, R111). -/
def releaseFlags (c : Ch) (held : Option Handle) (s s1 : State) : State :=
  let ch := s.ch c
  let s2 := if speaks ch && losesLock ch held then s1.setFlag c .lockLost else s1
  if speaks ch && wasRetiring s ch.bound then s2.setFlag c .bindingReleased else s2

/-- A release request served (R55, R130, R131). -/
def releaseNext (c : Ch) (hold : HoldOption) (s : State) : State :=
  let ch := s.ch c
  match heldAt s ch hold with
  | none =>
    ((releaseFlags c none s (dropCount (grantCh s c) ch.bound)).setCh c
      (completed { ch with binding := .none, request := none })).handOn c
  | some h =>
    let s1 := moveCount (grantCh s c) ch.bound h
    let b := boundAt s1 h .hold
    let ch1 := { ch with
      binding := .holding b, request := none
      holdLimit := if ch.settings.holdLimit = 0 then none else some { units := ch.settings.holdLimit, elapsed := 0 } }
    let s2 := (releaseFlags c (some h) s s1).setCh c (completed (generating ch1 (frameSettingOf b.body)))
    let s3 := match ch.binding with
      | .departing d =>
        if d.origin = Origin.hold ∧ d.handle = h ∧ d.revSeen ≠ b.revSeen then s2.setFlag c .recordAmended else s2
      | _ => s2
    (s3.setFlag c .holdStarted).handOn c

end Sys2Proof.Claims

namespace Sys2Proof.Claims

open Sys2Proof.Machine

/-! ## The front end (R63 to R74, R84 to R94) -/

/-- A channel with the polarity of an input in its measurement record, which FROZEN leaves as it is (R62, R75). -/
def polarityShown (ch : Channel) (input : SyncInput) (p : Polarity) : Channel :=
  if ch.acq = .frozen then ch
  else match input with
    | .lm => { ch with record := { ch.record with linePolarity := some p } }
    | .vm => { ch with record := { ch.record with verticalPolarity := some p } }

/-- A channel with the detector of an input set: its polarity and its run of opposite decided cycles (R63 to R65). -/
def detectorSet (ch : Channel) (input : SyncInput) (p : Polarity) (count : Nat) : Channel :=
  match input with
  | .lm => { ch with front := { ch.front with lmPolarity := some p, lmOpposite := count } }
  | .vm => { ch with front := { ch.front with vmPolarity := some p, vmOpposite := count } }

/-- The opposite polarity. -/
def flipped (p : Polarity) : Polarity := if p = .positive then .negative else .positive

/-- The measured polarity of an input, none while unknown, its run of opposite decided cycles, and the run that makes a change. -/
def detectorOf (ch : Channel) (input : SyncInput) : Option Polarity × Nat × Nat :=
  match input with
  | .lm => (ch.front.lmPolarity, ch.front.lmOpposite, 4)
  | .vm => (ch.front.vmPolarity, ch.front.vmOpposite, 2)

/-- A completed cycle of an input that is high for `high` of its `cycle` samples, while no polarity change waits (R63 to R65). -/
def cycleTaken (ch : Channel) (input : SyncInput) (high cycle : Nat) : Channel :=
  if ch.acq = .off ∨ 2 * high = cycle then ch
  else
    let d : Polarity := if 2 * high < cycle then .positive else .negative
    match detectorOf ch input with
    | (none, _, _) => polarityShown (detectorSet ch input d 0) input d
    | (some p, run, target) =>
      if target ≤ run then ch else detectorSet ch input p (if d = p then 0 else run + 1)

/-- The block in progress discarded where an out-of-range line period or an LM polarity change is recognized (R70, R71). -/
def blockDropped (ch : Channel) : Channel :=
  match ch.front.block with
  | .running _ _ _ => { ch with front := { ch.front with block := if ch.aligned then .awaitVertical else .awaitLine } }
  | _ => ch

/-- What a recognized polarity change does in the front end (R65): the polarity is the opposite one and what was in progress on the
input is abandoned. -/
def polarityFlipped (ch : Channel) (input : SyncInput) (p : Polarity) : Channel :=
  let ch1 := polarityShown (detectorSet ch input (flipped p) 0) input (flipped p)
  match input with
  | .lm =>
    let ch2 := blockDropped ch1
    { ch2 with
      front := { ch2.front with period := none, prevPeriod := none }
      record := if ch.acq = .frozen then ch.record else { ch1.record with stabilityRun := 0 } }
  | .vm =>
    { ch1 with
      front := { ch1.front with interval := none, width := none, prevInterval := none }
      record := if ch.acq = .frozen then ch.record else { ch1.record with frameRun := 0 } }

/-- A polarity change at a lawful channel (R65, R100): in MEASURING, UNMATCHED, LOCKED and DRIFTING it goes to SEEKING, and a MATCH
binding departs with LOCK_LOST. -/
def polarityChangeNext (c : Ch) (input : SyncInput) (p : Polarity) (s : State) : State :=
  let ch := polarityFlipped (s.ch c) input p
  if ch.acq = .measuring ∨ ch.acq = .unmatched ∨ ch.acq = .locked ∨ ch.acq = .drifting then
    match ch.binding with
    | .holding b =>
      if b.origin = .found then
        ((s.setCh c (seeking (departed (withdrawn ch) b .polarityChange .none))).setFlag c .lockLost).handOn c
      else (s.setCh c (seeking (withdrawn ch))).handOn c
    | _ => (s.setCh c (seeking (withdrawn ch))).handOn c
  else s.setCh c ch

/-- What every line marker does (R66, R72, R74, R98). -/
def lineMarked (ch : Channel) : Channel :=
  { ch with
    lineLoss := if ch.acq = .forced then ch.lineLoss else some { units := ch.settings.lineLoss, elapsed := 0 }
    front := { ch.front with
      period := some 0
      interval := (match ch.front.interval with | some n => some (n + 1) | none => none)
      width := (match ch.front.width with | some n => some (min (n + 1) 4095) | none => none) } }

/-- The stability run after a line period in range (R67). -/
def stabilityAfter (ch : Channel) (p : Nat) : Nat :=
  match ch.front.prevPeriod with
  | some q => if (p - q : Int).natAbs ≤ ch.settings.stabilityWindow then min (ch.record.stabilityRun + 1) 255 else 0
  | none => 0

/-- The block phase and a completed block's average after a line period in range (R68). -/
def blockAfter (ch : Channel) (p : Nat) : BlockPhase × Option Nat :=
  match ch.front.block with
  | .running size count sum =>
    if count + 1 < size then (.running size (count + 1) (sum + p), ch.front.blockDone)
    else (.running ch.effectiveBlock 0 0, some ((sum + p) / size))
  | .awaitLine => (.running ch.effectiveBlock 0 0, ch.front.blockDone)
  | x => (x, ch.front.blockDone)

/-- A line period in range formed at a line marker (R66 to R68, R84): in SEEKING a stability run at its target takes the channel to
MEASURING. -/
def periodFormed (ch : Channel) (p : Nat) : Channel :=
  let ch1 := lineMarked ch
  let ch2 := { ch1 with
    record := { ch1.record with stabilityRun := stabilityAfter ch p }
    front := { ch1.front with prevPeriod := some p, block := (blockAfter ch p).1, blockDone := (blockAfter ch p).2 } }
  if ch.acq = .seeking ∧ ch.settings.stabilityTarget ≤ stabilityAfter ch p then
    { forming ch2 with acq := .measuring, lineLoss := some { units := ch.settings.lineLoss, elapsed := 0 } }
  else ch2

/-- An out-of-range line period recognized in the front end (R66, R67, R70). -/
def periodRefused (ch : Channel) : Channel :=
  let ch1 := blockDropped ch
  { ch1 with record := { ch1.record with stabilityRun := 0 }, front := { ch1.front with prevPeriod := none } }

/-- A block that waits for the next line marker begins (R68). -/
def blockBegun (ch : Channel) : Channel :=
  match ch.front.block with
  | .awaitLine => { ch with front := { ch.front with block := .running ch.effectiveBlock 0 0 } }
  | _ => ch

/-- Entry to DRIFTING: the vertical-loss timer stops and a rematch is posted, which clears a rematch mark, or kept as the rematch mark
where the slot is occupied (R94, R105). -/
def drifting (ch : Channel) : Channel :=
  match ch.request with
  | none =>
    { ch with acq := .drifting, verticalLoss := none, rematch := false, request := some (.rematch (snapshotOf ch)) }
  | some _ => { ch with acq := .drifting, verticalLoss := none, rematch := true }

/-- One out-of-window block more, in LOCKED: at the block release run the channel enters DRIFTING (R90). -/
def outBlock (c : Ch) (s : State) (ch : Channel) : State :=
  let ch1 := { ch with record := { ch.record with outBlockRun := min (ch.record.outBlockRun + 1) ch.settings.blockReleaseRun } }
  if ch1.record.outBlockRun < ch.settings.blockReleaseRun then s.setCh c ch1 else (s.setCh c (drifting ch1)).handOn c

/-- One out-of-window interval more, in LOCKED: at the frame release run the channel enters DRIFTING (R91). -/
def outFrame (c : Ch) (s : State) (ch : Channel) : State :=
  let ch1 := { ch with record := { ch.record with outFrameRun := min (ch.record.outFrameRun + 1) ch.settings.frameReleaseRun } }
  if ch1.record.outFrameRun < ch.settings.frameReleaseRun then s.setCh c ch1 else (s.setCh c (drifting ch1)).handOn c

/-- Whether the front end forms periods and intervals: in every state but OFF and FROZEN (R62). -/
def forms (ch : Channel) : Bool := ch.acq != .off && ch.acq != .frozen

/-- A line marker (R66 to R68, R84, R90, R98), where `ticks` have fallen since the edges already counted. -/
def lineMarkerNext (c : Ch) (ticks : Nat) (s : State) : State :=
  let ch := s.ch c
  if forms ch && ch.front.lmPolarity.isSome then
    match ch.front.period with
    | none => s.setCh c (blockBegun (lineMarked ch))
    | some k =>
      if 64 ≤ k + ticks ∧ k + ticks ≤ 65535 then s.setCh c (periodFormed ch (k + ticks))
      else
        let ch1 := blockBegun (periodRefused (lineMarked ch))
        if ch.acq = .locked then outBlock c s ch1 else s.setCh c ch1
  else s

/-- A line period in progress whose count passes 65535 is abandoned (R66, R90). -/
def longLineNext (c : Ch) (s : State) : State :=
  let ch := s.ch c
  if forms ch && ch.front.period.isSome then
    let ch1 := periodRefused { ch with front := { ch.front with period := none } }
    if ch.acq = .locked then outBlock c s ch1 else s.setCh c ch1
  else s

/-- The block average handed on at its block boundary (R68). -/
def averageTaken (ch : Channel) (a : Nat) : Channel :=
  { ch with
    record := { ch.record with linePeriod := a }
    front := { ch.front with blockDone := none, prevAverage := some a, blockSeen := true } }

/-- Whether a block average differs from the previous one by more than the stability window (R85). -/
def unstable (ch : Channel) (a : Nat) : Bool :=
  match ch.front.prevAverage with
  | some q => ch.settings.stabilityWindow < (a - q : Int).natAbs
  | none => false

/-- A block boundary outside LOCKED (R68, R85, R86, R88, R94, R97). -/
def boundaryNext (c : Ch) (a : Nat) (s : State) : State :=
  let ch := s.ch c
  let ch1 := averageTaken ch a
  match ch.acq with
  | .measuring =>
    if unstable ch a then (s.setCh c (seeking (withdrawn ch1))).handOn c else s.setCh c (completed ch1)
  | .unmatched =>
    if unstable ch a then (s.setCh c (seeking (withdrawn ch1))).handOn c
    else if ch.rematch ∧ ch.request = none then
      s.setCh c { ch1 with stale := false, rematch := false, request := some (.acquire (snapshotOf ch1)) }
    else s.setCh c { ch1 with stale := false }
  | .forced => s.setCh c { ch1 with stale := false }
  | .drifting => s.setCh c ch1
  | _ => s.setCh c { ch with front := { ch.front with blockDone := none } }

/-- Whether a block average lies in the line release window of a body (R48). -/
def lineInside (ch : Channel) (b : Body) (a : Nat) : Bool :=
  (a - b.linePeriod : Int).natAbs ≤ b.lineTol + ch.settings.marginTicks

/-- Step 1 of R92: the block is evaluated (R90). -/
def boundaryEvaluated (ch : Channel) (b : Binding) (a : Nat) : Channel :=
  let ch1 := averageTaken ch a
  if lineInside ch b.body a then { ch1 with record := { ch1.record with outBlockRun := 0 } }
  else { ch1 with record := { ch1.record with
    outBlockRun := min (ch.record.outBlockRun + 1) ch.settings.blockReleaseRun } }

/-- Step 2 of R92 where the re-verify passes (R93): the pending body and revision are taken up. -/
def reverified (ch : Channel) (b : Binding) (body : Body) (rev : Byte) : Channel :=
  resizedFrom { ch with binding := .holding { b with body := body, revSeen := rev }, reverify := none } ch.effectiveBlock

/-- Steps 3 to 5 of R92 for a channel still LOCKED. -/
def boundaryMarks (c : Ch) (a : Nat) (s : State) : State :=
  let ch := s.ch c
  if ch.settings.blockReleaseRun ≤ ch.record.outBlockRun then (s.setCh c (drifting ch)).handOn c
  else if ch.rematch then (s.setCh c (drifting ch)).handOn c
  else if ch.stale ∧ ch.request = none then s.setCh c { ch with stale := false, request := some (.rebuild a) }
  else s

/-- A block boundary in LOCKED: the five steps of R92 in their order. -/
def lockedBoundaryNext (c : Ch) (b : Binding) (a : Nat) (s : State) : State :=
  let ch1 := boundaryEvaluated (s.ch c) b a
  match ch1.reverify with
  | none => boundaryMarks c a (s.setCh c ch1)
  | some (body, rev) =>
    if body.reverifies ch1.settings (snapshotOf ch1) then
      boundaryMarks c a (((s.setCh c (reverified ch1 b body rev)).setFlag c .recordAmended).handOn c)
    else (s.setCh c (drifting { ch1 with reverify := none })).handOn c

/-- The measured scan and frame lines of two intervals that agree (R73). -/
def frameOf (a b : Nat) : Scan × Nat := if a = b then (.progressive, a) else (.interlaced, a + b)

/-- A vertical interval in range after its predecessor, if any (R73): it becomes the predecessor. In SEEKING the frame run is held
at 0. -/
def intervalFormed (ch : Channel) (v : Nat) : Channel :=
  let front := { ch.front with prevInterval := some v }
  match ch.front.prevInterval with
  | none => { ch with front := front }
  | some q =>
    if (v - q : Int).natAbs ≤ 1 then
      let run := if ch.record.scan = some (frameOf v q).1 ∨ ch.record.frameRun = 0 then min (ch.record.frameRun + 1) 255 else 1
      { ch with
        front := front
        record := { ch.record with
          frameRun := if ch.acq = .seeking then 0 else run, scan := some (frameOf v q).1, frameLines := (frameOf v q).2 } }
    else { ch with front := front, record := { ch.record with frameRun := 0 } }

/-- What every vertical marker does (R71, R72, R74, R91). -/
def verticalMarked (ch : Channel) : Channel :=
  { ch with
    verticalLoss := if ch.acq = .locked then some { units := ch.settings.verticalLoss, elapsed := 0 } else ch.verticalLoss
    front := { ch.front with
      interval := some 0, width := some 0
      block := match ch.front.block with
        | .awaitVertical => .awaitLine
        | .running size count sum => if ch.aligned then .awaitLine else .running size count sum
        | x => x } }

/-- The distance of an interval from the nearest expected one of a body (R13, R48). -/
def frameDistance (b : Body) (v : Nat) : Nat :=
  if b.scan = .progressive then (v - b.frameLines : Int).natAbs
  else min (v - ((b.frameLines - 1) / 2 : Nat) : Int).natAbs (v - ((b.frameLines + 1) / 2 : Nat) : Int).natAbs

/-- A vertical interval at the acquisition machine (R86, R91). -/
def intervalTaken (c : Ch) (v : Nat) (s : State) (ch : Channel) : State :=
  if ch.acq = .locked then
    match ch.binding with
    | .holding b =>
      if 1 ≤ v ∧ v ≤ 4095 ∧ frameDistance b.body v ≤ b.body.frameTol + ch.settings.marginLines then
        s.setCh c { ch with record := { ch.record with outFrameRun := 0 } }
      else outFrame c s ch
    | _ => outFrame c s ch
  else s.setCh c (completed ch)

/-- A vertical marker (R71 to R74, R86, R91). -/
def verticalMarkerNext (c : Ch) (s : State) : State :=
  let ch := s.ch c
  if forms ch && ch.front.vmPolarity.isSome then
    match ch.front.interval with
    | none => s.setCh c (verticalMarked ch)
    | some 0 => intervalTaken c 0 s (verticalMarked { ch with record := { ch.record with frameRun := 0 } })
    | some v =>
      if v ≤ 4095 then intervalTaken c v s (verticalMarked (intervalFormed ch v))
      else intervalTaken c v s (verticalMarked { ch with record := { ch.record with frameRun := 0 } })
  else s

/-- A vertical interval in progress whose count has passed 4095 is abandoned, out of range (R72, R91). -/
def longIntervalNext (c : Ch) (s : State) : State :=
  let ch := s.ch c
  match ch.front.interval with
  | none => s
  | some v =>
    if forms ch && 4095 < v then
      intervalTaken c v s { ch with
        record := { ch.record with frameRun := 0 }, front := { ch.front with interval := none } }
    else s

/-- VM leaves its active level (R74). -/
def widthTaken (ch : Channel) : Channel :=
  match ch.front.width with
  | some w =>
    if forms ch then { ch with record := { ch.record with syncWidth := w }, front := { ch.front with width := none } } else ch
  | none => ch

/-! ## Loss timers and the hold limit (R91, R98, R99, R131, R136) -/

/-- The hold option of a release posted on input loss (R129). -/
def lossOption (ch : Channel) : HoldOption :=
  match ch.settings.holdPolicy with
  | .none => .none
  | .last => .last
  | .fixed => .fixed ch.settings.holdRecord

/-- A lawful channel after input loss, but for its flags (R99, R131). -/
def lost (ch : Channel) : Channel :=
  let ch1 := match ch.binding with
    | .holding b => departed ch b .inputLoss (lossOption ch)
    | _ =>
      match ch.request, ch.settings.holdPolicy with
      | some (.release _), _ => ch
      | _, .fixed => { ch with request := some (.release (lossOption ch)) }
      | _, _ => { ch with request := none }
  seeking { holdEnded ch1 with reverify := none }

/-- The expiry of a running line-loss timer (R98, R99): input loss in MEASURING, UNMATCHED, LOCKED and DRIFTING. -/
def lineLossNext (c : Ch) (s : State) : State :=
  let ch := s.ch c
  if ch.acq = .measuring ∨ ch.acq = .unmatched ∨ ch.acq = .locked ∨ ch.acq = .drifting then
    let s1 := (s.setCh c (lost ch)).setFlag c .inputLost
    (if ch.generator.isSome then s1.setFlag c .holdEnded else s1).handOn c
  else s.setCh c { ch with lineLoss := none }

/-- The expiry of a running vertical-loss timer in LOCKED: one interval outside the window, and the timer is reloaded (R91). -/
def verticalLossNext (c : Ch) (s : State) : State :=
  let ch := s.ch c
  outFrame c s { ch with verticalLoss := some { units := ch.settings.verticalLoss, elapsed := 0 } }

/-- The expiry of the hold-limit timer of a held channel (R136). -/
def holdLimitNext (c : Ch) (b : Binding) (s : State) : State :=
  let ch := s.ch c
  let keeps := match ch.request with
    | some (.acquire _) => ch.acq == Acq.unmatched
    | _ => false
  let ch1 := holdEnded (departed { ch with rematch := ch.rematch || keeps } b .holdLimit .none)
  ((s.setCh c ch1).setFlag c .holdEnded).handOn c

/-! ## Substitute timing (R132 to R134) -/

/-- A substitute frame start (R134): a pending amendment is adopted, otherwise the frame begins with the setting in force. -/
def frameStartNext (c : Ch) (g : Generator) (b : Binding) (s : State) : State :=
  let ch := s.ch c
  match ch.reverify with
  | none =>
    s.setCh c { ch with
      generator := some { setting := g.setting, phase := .generating, second := false, line := 0, tick := 0 }
      subLm := g.setting.linePolarity == .positive, subVm := g.setting.verticalPolarity == .positive }
  | some (body, rev) =>
    ((s.setCh c (generating { ch with
      binding := .holding { b with body := body, revSeen := rev }, reverify := none } (frameSettingOf body))).setFlag c
      .recordAmended).handOn c

/-- The lines of the field a generator is in (R132). -/
def fieldOf (g : Generator) : Nat :=
  if g.setting.scan = .progressive then g.setting.frameLines
  else if g.second then (g.setting.frameLines - 1) / 2 else (g.setting.frameLines + 1) / 2

/-- P ticks after a line began, or after a rest began (R132 to R134): the next line of the field with its line marker, and SUB_VM
back at the (w + 1)-th line; the second field with both markers; or a substitute frame start. -/
def substituteLineNext (c : Ch) (g : Generator) (s : State) : State :=
  let ch := s.ch c
  if g.phase = .resting then s.setCh c { ch with generator := some { g with phase := .frameDue } }
  else if g.phase = .frameDue then s
  else if g.line + 1 < fieldOf g then
    s.setCh c { ch with
      generator := some { g with line := g.line + 1, tick := 0 }
      subLm := ch.lastLm == .positive
      subVm := if g.setting.width ≤ g.line + 1 then ch.lastVm == .negative else ch.subVm }
  else if g.setting.scan = .interlaced ∧ g.second = false then
    s.setCh c { ch with
      generator := some { g with second := true, line := 0, tick := 0 }
      subLm := ch.lastLm == .positive, subVm := ch.lastVm == .positive }
  else s.setCh c { ch with generator := some { g with phase := .frameDue } }

/-- P/16 ticks after a line marker (R133). -/
def pulseEndNext (c : Ch) (g : Generator) (s : State) : State :=
  let ch := s.ch c
  if g.phase = .generating then
    s.setCh c { ch with
      generator := some { g with tick := max g.tick (g.setting.linePeriod / 16) }, subLm := ch.lastLm == .negative }
  else s

/-! ## The serializer (R141, R143) -/

/-- The channels in rotating order after one (R143). -/
def after (c : Ch) : List Ch := [c + 1, c + 2, c + 3, c + 4, c + 5, c]

/-- The frame that begins for a channel's pending entry (R143, R144). -/
def begun (s : State) (c : Ch) (e : Announced × BitVec 4) : State :=
  { s.setAnn c { s.ann c with entry := none, lastSent := some e.2 } with
    lastSent := c
    link := some
      { channel := c, announced := e.1, seq := e.2, frame := announceFrame c e.2 e.1, elapsed := 0 } }

/-- Where the link is IDLE and the enable on, the first channel after the last-sent one that has an entry is sent (R143). -/
def sending (s : State) : State :=
  if s.link.isNone ∧ s.time.announce then
    match (after s.lastSent).find? fun c => (s.ann c).entry.isSome with
    | none => s
    | some c =>
      match (s.ann c).entry with
      | none => s
      | some e => begun s c e
  else s

/-- A channel that hands on a state (R141). -/
def handedOn (s : State) (c : Ch) (a : Announced) : State :=
  if a = (s.ann c).announced then s
  else
    sending (s.setAnn c
      { announced := a, seq := (s.ann c).seq + 1, entry := some (a, (s.ann c).seq + 1), lastSent := (s.ann c).lastSent })

/-- The qualifier of an announced state, none for NONE (R107). -/
def qualifierOf (ch : Channel) : Option Qualifier :=
  match ch.acq with
  | .off => none
  | .seeking | .measuring | .unmatched => if ch.generator.isSome then some .substitute else none
  | .locked => some .locked
  | .drifting => some .drifting
  | .frozen => some .frozen
  | .forced => some .forced

/-- The announced state a channel forms (R107, R141). -/
def announcedOf (ch : Channel) : Announced :=
  match ch.binding, qualifierOf ch with
  | .holding b, some q =>
    { qualifier := q, handle := b.handle, rev := b.revSeen, tag := b.body.tag, linePeriod := b.body.linePeriod,
      frameLines := b.body.frameLines, scan := b.body.scan }
  | _, _ =>
    { qualifier := .none, handle := ⟨0, 0⟩, rev := 0, tag := 0, linePeriod := 0, frameLines := 0, scan := .progressive }

/-! ## Channel reads (R77, R162, R166) -/

/-- Bytes 3 to 7 of READ CHANNEL: the binding (R166). -/
def bindingBytes (b : ChannelBinding) : List Byte :=
  match b with
  | .none => [0, 0, 0, 0, 0]
  | .holding b =>
    [1, b.handle.slot, b.handle.gen, b.revSeen,
     match b.origin with
      | .found => 1
      | .force => 2
      | .hold => 3]
  | .departing d => [2, d.handle.slot, d.handle.gen, 0, 0]

/-- A shortlist entry of READ CHANNEL, zeros where there is none (R166). -/
def entryBytes (e : Option ShortEntry) : List Byte :=
  match e with
  | some e => [e.handle.slot, e.handle.gen, e.rev]
  | none => [0, 0, 0]

/-- The code of an acquisition state (R166). -/
def acqByte (a : Acq) : Byte :=
  match a with
  | .off => 0
  | .seeking => 1
  | .measuring => 2
  | .unmatched => 3
  | .locked => 4
  | .drifting => 5
  | .frozen => 6
  | .forced => 7

/-- A flag as a byte. -/
def flagByte (b : Bool) : Byte := if b then 1 else 0

/-- The 23 bytes of READ CHANNEL (R162, R166). -/
def channelBytes (c : Ch) (ch : Channel) (a : AnnounceChannel) : List Byte :=
  [BitVec.ofNat 8 c.val, acqByte ch.acq, flagByte ch.generator.isSome] ++ bindingBytes ch.binding ++
    [BitVec.ofNat 8 ch.shortlist.length] ++ entryBytes ch.shortlist[0]? ++ entryBytes ch.shortlist[1]? ++
    entryBytes ch.shortlist[2]? ++
    [flagByte ch.reverify.isSome ||| (flagByte ch.stale <<< 1) ||| (flagByte ch.rematch <<< 2),
     (match ch.request with
      | none => 0
      | some (.acquire _) => 1
      | some (.rematch _) => 2
      | some (.rebuild _) => 3
      | some (.release _) => (4 : Byte)),
     a.seq.setWidth 8, flagByte a.entry.isSome,
     (match a.lastSent with
      | none => 0xFF
      | some n => n.setWidth 8)]

/-- The code of a polarity, 0 while unknown (R164). -/
def polarityByte (p : Option Polarity) : Byte :=
  match p with
  | none => 0
  | some .positive => 1
  | some .negative => 2

/-- The 16 bytes of READ MEASUREMENT (R77, R166). -/
def measurementBytes (c : Ch) (r : MeasureRecord) : List Byte :=
  [BitVec.ofNat 8 c.val, flagByte r.valid] ++ bytes2 r.linePeriod ++ bytes2 r.frameLines ++
    [(match r.scan with
      | none => 0
      | some .progressive => 1
      | some .interlaced => (2 : Byte))] ++
    bytes2 r.syncWidth ++
    [polarityByte r.linePolarity, polarityByte r.verticalPolarity, BitVec.ofNat 8 r.frameRun, BitVec.ofNat 8 r.stabilityRun,
     BitVec.ofNat 8 r.outBlockRun, BitVec.ofNat 8 r.outFrameRun, 0]

/-! ## The event unit (R171 to R173) -/

/-- The 27 bytes of READ EVENTS (R171). -/
def eventBytes (e : EventUnit) : List Byte :=
  [0, 1, 2, 3, 4, 5].flatMap (fun c : Fin 6 => bytes2 (e.flags[c.val]).toNat) ++ [BitVec.ofNat 8 e.device.toNat] ++
    [0, 1, 2, 3, 4, 5].flatMap (fun c : Fin 6 => bytes2 (e.enables[c.val]).toNat) ++
    [BitVec.ofNat 8 e.deviceEnables.toNat, if e.pinDisable then 1 else 0]

/-- The nine flags of a channel in the order of their bits (R164, R168). -/
def flagTable : List ChannelFlag :=
  [.lockGained, .lockLost, .formatChanged, .recordAmended, .bindingReleased, .unmatched, .inputLost, .holdStarted, .holdEnded]

/-- The three device flags in the order of their bits (R164, R168). -/
def deviceFlagTable : List DeviceFlag := [.retireDone, .retireForced, .editExpired]

/-- Whether a command's bitmaps name nothing but flags: bits 9 to 15 of each channel and bits 3 to 7 of the device clear (R172,
R173). -/
def namesFlags (maps : ChannelMaps) (device : Byte) : Bool :=
  ([0, 1, 2, 3, 4, 5] : List (Fin 6)).all (fun c => maps[c.val].toNat < 512) && device.toNat < 8

/-! ## The clock (R59, R60, R66, R132, R144) -/

/-- A running timer one REFCLK period later, where its unit lasts `unit` of them; with no unit left it stands until its expiry is
taken (R60). -/
def timerLater (unit : Nat) (x : Timer) : Timer :=
  if x.units = 0 then x
  else if x.elapsed + 1 < unit then { x with elapsed := x.elapsed + 1 }
  else { units := x.units - 1, elapsed := 0 }

/-- The time base one REFCLK period later: its count of periods toward the next tick (R59). -/
def timeLater (t : TimeBase) : TimeBase := { t with phase := if t.phase + 1 < t.divider then t.phase + 1 else 0 }

/-- A channel one REFCLK period later (R60, R66, R132): its timers, and at a tick one more tick of the line period in progress and of
the generator's line. -/
def channelLater (t : TimeBase) (ch : Channel) : Channel :=
  let tick := if t.phase + 1 < t.divider then 0 else 1
  { ch with
    lineLoss := ch.lineLoss.map (timerLater (t.refclk / 10))
    verticalLoss := ch.verticalLoss.map (timerLater t.refclk)
    holdLimit := ch.holdLimit.map (timerLater (100 * t.refclk))
    front := { ch.front with period := ch.front.period.map fun n => n + tick }
    generator := ch.generator.map fun g => { g with tick := g.tick + tick } }

/-- The part one REFCLK period later (R59, R60, R144): nothing but what is written here changes. -/
def later (s : State) : State :=
  { s with
    time := timeLater s.time
    chans := Vector.ofFn fun c : Fin 6 => channelLater s.time s.chans[c.val]
    edits := Vector.ofFn fun k : Fin 4 => s.edits[k.val].map fun e => { e with lease := timerLater (10 * s.time.refclk) e.lease }
    retiring := s.retiring.map fun e => { e with timer := timerLater (10 * s.time.refclk) e.timer }
    linkRest := s.linkRest - 1
    link := if 0 < s.linkRest then s.link else s.link.map fun k => { k with elapsed := k.elapsed + 1 } }

/-- Whether a timer has run out of units. -/
def ranOut (x : Option Timer) : Bool :=
  match x with
  | some t => t.units == 0
  | none => false

/-- Whether an edit context is OPEN with its lease run out. -/
def leaseOut (e : Option EditContext) : Bool :=
  match e with
  | some e => e.lease.units == 0
  | none => false

/-- Whether an event is due of the part's own accord. A channel's: a polarity change at its run of opposite cycles (R65), an interval
past 4095 (R72) or a line period past 65535 (R66), a completed block (R68), a timer with no unit left (R60), a substitute frame start,
the end of the SUB_LM pulse after P/16 ticks (R133), and a substitute line after P (R132, R134). The link's: a frame whose 320 REFCLK
periods have passed (R144). The controller's: a lease or a retire timer with no unit left, and the request the arbiter grants. Any
other event is due only as the row of a command in EXECUTING, which the controller takes at its grant (R152). -/
def ownDue (s : State) (i : Instr) : Prop :=
  match i with
  | .polarityChange c input =>
    (s.ch c).acq ≠ .off ∧ ∃ p run target, detectorOf (s.ch c) input = (some p, run, target) ∧ target ≤ run
  | .longVerticalInterval c => forms (s.ch c) = true ∧ ∃ n, (s.ch c).front.interval = some n ∧ 4095 < n
  | .longLinePeriod c => forms (s.ch c) = true ∧ ∃ n, (s.ch c).front.period = some n ∧ 65535 < n
  | .blockBoundary c => (s.ch c).front.blockDone ≠ none
  | .lineLossExpiry c => ranOut (s.ch c).lineLoss = true
  | .verticalLossExpiry c => ranOut (s.ch c).verticalLoss = true
  | .holdLimitExpiry c => ranOut (s.ch c).holdLimit = true
  | .substituteFrameStart c => ∃ g, (s.ch c).generator = some g ∧ g.phase = .frameDue
  | .subLmPulseEnd c =>
    ∃ g, (s.ch c).generator = some g ∧ g.phase = .generating ∧ g.setting.linePeriod / 16 ≤ g.tick ∧
      (s.ch c).subLm = ((s.ch c).lastLm == .positive)
  | .substituteLine c => ∃ g, (s.ch c).generator = some g ∧ g.phase ≠ .frameDue ∧ g.setting.linePeriod ≤ g.tick
  | .announceFrameComplete => s.linkRest = 0 ∧ ∃ k, s.link = some k ∧ 320 ≤ k.elapsed
  | .leaseExpiry k => leaseOut (s.edit k) = true
  | .retireTimerExpiry h => ∃ e ∈ s.retiring, e.handle = h ∧ e.timer.units = 0
  | .matchRequest c => channelGranted s c ∧ ∃ m, (s.ch c).request = some (.acquire m)
  | .rematchRequest c => channelGranted s c ∧ ∃ m, (s.ch c).request = some (.rematch m)
  | .shortlistRebuild c => channelGranted s c ∧ ∃ p, (s.ch c).request = some (.rebuild p)
  | .releaseRequest c => channelGranted s c ∧ ∃ hold, (s.ch c).request = some (.release hold)
  | i => ∃ p tag cmd, i = cmd.row p tag ∧ executing s p tag cmd ∧ (cmd.code ∈ controllerCodes → portGranted s p)

/-- Whether an event of a channel's front end is due (R65, R66, R68, R72). -/
def markerDue (ch : Channel) : Bool :=
  (ch.acq != .off && ((ch.front.lmPolarity.isSome && 4 ≤ ch.front.lmOpposite) ||
    (ch.front.vmPolarity.isSome && 2 ≤ ch.front.vmOpposite))) ||
  (forms ch && ((ch.front.interval.any fun n => 4095 < n) || ch.front.period.any fun n => 65535 < n)) ||
  ch.front.blockDone.isSome

/-- The expiry due first among a channel's timers, in the order of entry 10. -/
def channelExpiry (c : Ch) (ch : Channel) : Option Instr :=
  if ranOut ch.lineLoss then some (.lineLossExpiry c)
  else if ranOut ch.verticalLoss then some (.verticalLossExpiry c)
  else if ranOut ch.holdLimit then some (.holdLimitExpiry c)
  else none

/-! ## The wire codes (R156, R163, R164, R167) -/

/-- The product of two polynomials over two elements, one of at most 8 bits and one of 9, bit n the coefficient of x^n. -/
def product (q : Byte) (poly : BitVec 16) : BitVec 16 :=
  (List.range 8).foldl (fun r k => if q.getLsbD k then r ^^^ (poly <<< k) else r) 0

/-- The parameter length of each command code (R164). -/
def lengthTable : List (Byte × Nat) :=
  [(0x01, 0), (0x02, 7), (0x03, 1), (0x10, 2), (0x11, 6), (0x12, 10), (0x13, 3), (0x14, 4), (0x15, 2), (0x16, 1), (0x17, 1),
   (0x18, 1), (0x19, 2), (0x20, 20), (0x21, 1), (0x22, 1), (0x23, 1), (0x24, 3), (0x25, 1), (0x26, 1), (0x27, 1), (0x30, 0),
   (0x31, 13), (0x32, 14)]

/-- The statuses in the order of R156, with their values on the wire. -/
def statusTable : List (Status × Byte) :=
  [(.done, 0x00), (.pending, 0x01), (.notReady, 0x02), (.busy, 0x03), (.frameError, 0x10), (.unknownCommand, 0x11),
   (.readOnly, 0x12), (.badHandle, 0x20), (.stale, 0x21), (.state, 0x22), (.protectedRecord, 0x23), (.editOpen, 0x24),
   (.noEdit, 0x25), (.editFull, 0x26), (.range, 0x27), (.inconsistent, 0x28), (.duplicate, 0x29), (.catalogueFull, 0x2A),
   (.retireFull, 0x2B), (.channelState, 0x30), (.noMatch, 0x31), (.clockLocked, 0x32), (.badChannel, 0x33)]

/-- A two-byte parameter, most significant byte first (R163). -/
def two (high low : Byte) : BitVec 16 := BitVec.ofNat 16 (256 * high.toNat + low.toNat)

/-- The six two-byte bitmaps of the event commands, CH0 first (R164). -/
def mapsOf (b : Vector Byte 12) : ChannelMaps :=
  #v[two b[0] b[1], two b[2] b[3], two b[4] b[5], two b[6] b[7], two b[8] b[9], two b[10] b[11]]

/-- The settings of CONFIGURE CHANNEL after its channel byte, in the order of R79 (R164). -/
def settingsOfBytes (b : Vector Byte 19) : RawSettings :=
  { mode := b[0], classMask := b[1], blockSize := b[2], stabilityWindow := b[3], stabilityTarget := b[4], frameTarget := b[5],
    marginTicks := b[6], marginLines := b[7], blockReleaseRun := b[8], frameReleaseRun := b[9],
    neighbourhood := two b[10] b[11], lineLoss := b[12], verticalLoss := b[13], holdPolicy := b[14], holdPresent := b[15],
    holdRecord := { slot := b[16], gen := b[17] }, holdLimit := b[18] }

/-! ## The device commands (R61, R145, R158 to R160) -/

/-- Whether the five values of SETUP DEVICE lie in their ranges (R158). -/
def setupAccepted (refclk divider lease retire announce : Nat) : Bool :=
  4000 ≤ refclk && refclk ≤ 150000 && (divider == 1 || divider == 2 || divider == 4) && 1 ≤ lease && lease ≤ 255 &&
    1 ≤ retire && retire ≤ 255 && (announce == 0 || announce == 1)

/-- SETUP DEVICE (R59, R61, R145, R158). -/
def setupNext (p : Port) (tag : Byte) (refclk : BitVec 24) (divider lease retire announce : Byte) (s : State) : State :=
  if setupAccepted refclk.toNat divider.toNat lease.toNat retire.toNat announce.toNat then
    if (refclk.toNat ≠ s.time.refclk ∨ divider.toNat ≠ s.time.divider) ∧
        ([0, 1, 2, 3, 4, 5] : List Ch).any fun c => (s.ch c).acq != .off then
      answered s p tag .clockLocked []
    else
      let s1 := { s with time :=
        { refclk := refclk.toNat, divider := divider.toNat, lease := lease.toNat, retire := retire.toNat,
          announce := announce == 1, phase := if divider.toNat = s.time.divider then s.time.phase else 0 } }
      answered (if announce = 1 ∧ s.time.announce = false then sending s1 else s1) p tag .done []
  else answered s p tag .range []

end Sys2Proof.Claims

open Sys2Proof Sys2Proof.Machine Sys2Proof.Claims

/-! ## The step, the queue and resets -/

/-- A step runs the command at the front of the queue on the state with the queue's rest. -/
def Obligations.StepRunsTheFrontCommand : Prop :=
  ∀ (i : Instr) (rest : List Instr) (s : State),
    step { s with pending := i :: rest } = exec i { s with pending := rest }

/-- The model's own choice (entries 1 and 10): with no command waiting, a part held in reset does nothing, a part with work of its
own queues it, and any other part takes one edge of REFCLK. That edge (R59, R60, R66, R132, R144) counts in every running timer, in
the tick and in the link and changes nothing else; a running timer loses one unit after the unit's REFCLK periods, and a tick falls
after the divider's (entry 26). The part's own work is an event only where that event is due, and none only where no event is: an
expiry with no unit left, SUB_LM_PULSE_END and SUBSTITUTE_LINE after P/16 and P ticks, ANNOUNCE_FRAME_COMPLETE after 320 REFCLK
periods, LONG_LINE_PERIOD past 65535, and the rest as their rules say. The expiries come in the order of entry 10. -/
def Obligations.IdleStepTakesOwnWorkOrOneEdge : Prop :=
  (∀ s : State, s.pending = [] →
    step s = .next (if s.resetLow then s
      else match s.ownWork with
        | some i => { s with pending := [i] }
        | none => s.clockEdge)) ∧
  (∀ s : State, s.clockEdge = later s) ∧
  (∀ unit units n : Nat, 0 < unit → n ≤ unit →
    (timerLater unit)^[n] { units := units + 1, elapsed := 0 } =
      if n < unit then { units := units + 1, elapsed := n } else { units := units, elapsed := 0 }) ∧
  (∀ (t : TimeBase) (n : Nat), 0 < t.divider → t.phase = 0 → n ≤ t.divider →
    timeLater^[n] t = { t with phase := if n < t.divider then n else 0 }) ∧
  (∀ (s : State) (i : Instr), s.ownWork = some i → ownDue s i) ∧
  (∀ s : State, s.ownWork = none → ∀ i, ¬ ownDue s i) ∧
  (∀ (s : State) (c : Ch), (∀ d < c, (s.ch d).ownEvent d = none) → markerDue (s.ch c) = false →
    channelExpiry c (s.ch c) ≠ none → s.ownWork = channelExpiry c (s.ch c)) ∧
  ∀ s : State, (∀ c, (s.ch c).ownEvent c = none) →
    (∀ p tag cmd, (s.port p).slot = .executing tag cmd → cmd.code ∈ controllerCodes) →
    (∀ k, s.link = some k → 0 < s.linkRest ∨ k.elapsed < 320) →
      (∀ k, leaseOut (s.edit k) = true → (∀ j < k, leaseOut (s.edit j) = false) → s.ownWork = some (.leaseExpiry k)) ∧
      ((∀ k, leaseOut (s.edit k) = false) → ∀ before e rest, s.retiring = before ++ e :: rest →
        (∀ x ∈ before, x.timer.units ≠ 0) → e.timer.units = 0 → s.ownWork = some (.retireTimerExpiry e.handle))

/-- Every command and event answers a next state: no row stops. That none touches a command that waits rests on the model's queue
(entry 1), and that an event presented where it cannot occur answers the state as it was on entry 3. -/
def Obligations.EveryCommandCompletesAndKeepsTheQueue : Prop :=
  ∀ (i : Instr) (s : State), ∃ t, exec i s = .next t ∧ t.pending = s.pending

/-- Power-on, the assertion of nRESET and its rise (R155, R161; entries 6 and 7): every block at its full reset value, nRESET high or
low, and the monitor port's address as MA chooses it. The queue, the count of choices and what a cut read was returning (entry 23)
are the model's own. -/
def Obligations.ResetPinsGiveTheFullResetState : Prop :=
  ∀ (ma : Bool) (s : State),
    exec (.powerOn ma) s =
        .next { State.reset with
          host := { PortState.initial with lost := s.host.slot }, monitor := { PortState.initial with lost := s.monitor.slot },
          maLevel := ma, monitorAddress := if ma then 0x3B else 0x3A, choices := s.choices, pending := s.pending } ∧
      exec .nresetAssert s =
        .next { State.reset with
          host := { PortState.initial with lost := s.host.slot }, monitor := { PortState.initial with lost := s.monitor.slot },
          resetLow := true, maLevel := s.maLevel, monitorAddress := if s.maLevel then 0x3B else 0x3A, choices := s.choices,
          pending := s.pending } ∧
      exec (.nresetRelease ma) s =
        .next (if s.resetLow then
          { s with resetLow := false, maLevel := ma, monitorAddress := if ma then 0x3B else 0x3A } else s)

/-- The values a full reset gives every block (R21, R39, R46, R59, R108, R127, R139, R146, R149, R174). -/
def Obligations.FullResetValues : Prop :=
  (∀ n < 96, (State.reset.slot n).state = .free ∧ (State.reset.slot n).gen = 0 ∧ (State.reset.slot n).rev = 0 ∧
      (State.reset.slot n).count = 0 ∧ (State.reset.slot n).mark = none) ∧
    State.reset.index = [] ∧ (∀ id, State.reset.edit id = none) ∧ State.reset.retiring = [] ∧ State.reset.granted = 7 ∧
    (∀ c, (State.reset.ch c).acq = .off ∧ (State.reset.ch c).binding = .none ∧ (State.reset.ch c).shortlist = [] ∧
      (State.reset.ch c).reverify = none ∧ (State.reset.ch c).stale = false ∧ (State.reset.ch c).rematch = false ∧
      (State.reset.ch c).request = none ∧ (State.reset.ch c).lineLoss = none ∧ (State.reset.ch c).verticalLoss = none ∧
      (State.reset.ch c).holdLimit = none ∧ (State.reset.ch c).generator = none ∧ (State.reset.ch c).lastLm = .positive ∧
      (State.reset.ch c).lastVm = .positive ∧ (State.reset.ch c).subLm = false ∧ (State.reset.ch c).subVm = false ∧
      (State.reset.ch c).record = MeasureRecord.cleared ∧
      (State.reset.ch c).settings =
        { mode := .track, classMask := 0xFF, blockSize := 32, stabilityWindow := 4, stabilityTarget := 64,
          frameTarget := 3, marginTicks := 8, marginLines := 2, blockReleaseRun := 4, frameReleaseRun := 2,
          neighbourhood := 256, lineLoss := 10, verticalLoss := 100, holdPolicy := .none, holdRecord := none,
          holdLimit := 0 }) ∧
    (∀ c, (State.reset.ann c).announced.qualifier = .none ∧ (State.reset.ann c).seq = 0 ∧
      (State.reset.ann c).entry = none ∧ (State.reset.ann c).lastSent = none) ∧
    State.reset.link = none ∧ State.reset.linkRest = 0 ∧ State.reset.lastSent = 5 ∧
    (∀ p, (State.reset.port p).slot = .empty ∧ (State.reset.port p).lost = .empty) ∧ State.reset.resetWaiting = false ∧
    (∀ c, State.reset.flagsOf c = 0 ∧ State.reset.enablesOf c = 0) ∧ State.reset.events.device = 0 ∧
    State.reset.events.deviceEnables = 0 ∧ State.reset.events.pinDisable = false ∧ State.reset.irqAsserted = false ∧
    State.reset.time.refclk = 48000 ∧ State.reset.time.divider = 1 ∧ State.reset.time.lease = 200 ∧
    State.reset.time.retire = 50 ∧ State.reset.time.announce = true ∧
    (∀ c, (State.reset.ch c).front = FrontEnd.cleared) ∧
    MeasureRecord.cleared =
      { valid := false, linePeriod := 0, frameLines := 0, scan := none, syncWidth := 0, linePolarity := none,
        verticalPolarity := none, frameRun := 0, stabilityRun := 0, outBlockRun := 0, outFrameRun := 0 } ∧
    FrontEnd.cleared =
      { lmPolarity := none, vmPolarity := none, lmOpposite := 0, vmOpposite := 0, period := none, prevPeriod := none,
        block := .off, blockDone := none, prevAverage := none, blockSeen := false, interval := none, prevInterval := none,
        width := none } ∧
    (∀ p, State.reset.port p = PortState.initial) ∧
    PortState.initial = { slot := .empty, refusing := false, lost := .empty, sent := [], acks := [] }

/-! ## Invariants -/

/-- Every law of the part holds right after reset. -/
def Obligations.LawsHoldAtReset : Prop :=
  State.reset.channelsLawful = true ∧ State.reset.channelsInRange = true ∧ State.reset.announceLawful = true ∧
    State.reset.catalogueLawful = true ∧ State.reset.portsLawful = true ∧ State.reset.resetLaw = true

/-- Every step keeps the laws of the channels: binding, origin, acquisition state, generator, posted request, timers, marks, and the
levels of SUB_LM and SUB_VM while the generator is QUIET. -/
def Obligations.EveryStepKeepsChannelLaws : Prop :=
  ∀ s t : State, s.channelsLawful = true → step s = .next t → t.channelsLawful = true

/-- Every step keeps every channel's settings, measurement record and front end in their ranges. -/
def Obligations.EveryStepKeepsMeasurementRanges : Prop :=
  ∀ s t : State, s.channelsInRange = true → step s = .next t → t.channelsInRange = true

/-- Every step hands on what it changes: the serializer's announced state of a channel is at all times the one the channel forms, and a
pending entry holds it with its sequence number. -/
def Obligations.EveryStepHandsOnAnnouncedStates : Prop :=
  ∀ s t : State, s.channelsLawful = true → s.announceLawful = true → step s = .next t → t.announceLawful = true

/-- Every step keeps the laws of the catalogue: the match index, unique keys, record bodies within R10 and R11, working bodies within
R10, edit marks, the pending-retire set, and binding counts equal to the channels that name each record. -/
def Obligations.EveryStepKeepsCatalogueLaws : Prop :=
  ∀ s t : State, s.channelsLawful = true → s.catalogueLawful = true → step s = .next t → t.catalogueLawful = true

/-- Every step keeps what stands in the command slots lawful, with no RESET DEVICE in EXECUTING, and the DONE of a waiting full
reset unread; and while nRESET is held low every block stands at its full reset value, whatever happens. -/
def Obligations.EveryStepKeepsPortAndResetLaws : Prop :=
  ∀ s t : State, step s = .next t →
    (s.portsLawful = true → t.portsLawful = true) ∧ (s.resetLaw = true → t.resetLaw = true)

/-! ## Frames on the wire -/

/-- The command frame of every command comes back from the intake checks as that command, or as READ_ONLY on a port that does not
accept it (R150, R163, R164). -/
def Obligations.CommandFramesRoundTrip : Prop :=
  ∀ (p : Port) (tag : Byte) (cmd : Cmd), cmd.wellFormed = true →
    frameTag (cmd.frame tag) = tag ∧
      intake p (cmd.frame tag) = if cmd.allowedOn p then .ok cmd else .error .readOnly

/-- The check byte and the codes on the wire. The check begins at 0xFF, and each byte b takes the register r to the remainder of the
division of (r + b)x^8 by x^8 + x^2 + x + 1, most significant bit first (R163); a check byte makes the check of the whole frame end
at zero, and a response frame is status, tag, length, data and check byte. The statuses, qualifiers, command codes, parameter lengths
and parameters have the values of R156, R164 and R167, and the ports and the controller take the commands of R150 and R152. -/
def Obligations.CheckByteEndsAtZero : Prop :=
  crcOf [] = 0xFF ∧ (∀ bytes b, crcOf (bytes ++ [b]) = crcByte (crcOf bytes) b) ∧
  (∀ r b : Byte, ∃ quotient : Byte,
    product quotient 0x107 ^^^ (crcByte r b).setWidth 16 = (r ^^^ b).setWidth 16 <<< 8) ∧
  (∀ bytes : List Byte, crcOf (withCheck bytes) = 0) ∧
  (∀ r : Response, ∃ check : Byte,
    responseFrame r = [r.status.code, r.tag, BitVec.ofNat 8 r.data.length] ++ r.data ++ [check] ∧
      crcOf (responseFrame r) = 0) ∧
  (∀ x : Status, (x, x.code) ∈ statusTable) ∧
  [Qualifier.none, .locked, .drifting, .substitute, .forced, .frozen].map Qualifier.code = [0, 1, 2, 3, 4, 5] ∧
  (∀ code : Byte, parameterLength code = lengthTable.lookup code) ∧
  (∀ (code : Byte) (ps : List Byte), parameterLength code ≠ some ps.length → parseCommand code ps = none) ∧
  (∀ cmd : Cmd, parameterLength cmd.code = some cmd.parameters.length ∧
    (cmd.byController = true ↔ cmd.code ∈ controllerCodes) ∧
    (cmd.allowedOn .monitor = true ↔ cmd.code ∈ [0x01, 0x10, 0x11, 0x12, 0x25, 0x26]) ∧ cmd.allowedOn .host = true) ∧
  parseCommand 0x01 [] = some .readDevice ∧ parseCommand 0x30 [] = some .readEvents ∧
  (∀ a b c d e f g : Byte, parseCommand 0x02 [a, b, c, d, e, f, g] =
    some (.setupDevice (BitVec.ofNat 24 (65536 * a.toNat + 256 * b.toNat + c.toNat)) d e f g)) ∧
  (∀ a : Byte, parseCommand 0x03 [a] = some (if a = 0 then .resetFull else .resetOther a) ∧
    parseCommand 0x16 [a] = some (.readEdit a) ∧ parseCommand 0x17 [a] = some (.commitEdit a) ∧
    parseCommand 0x18 [a] = some (.dropEdit a) ∧ parseCommand 0x21 [a] = some (.startChannel a) ∧
    parseCommand 0x22 [a] = some (.stopChannel a) ∧ parseCommand 0x23 [a] = some (.rearmChannel a) ∧
    parseCommand 0x25 [a] = some (.readChannel a) ∧ parseCommand 0x26 [a] = some (.readMeasurement a) ∧
    parseCommand 0x27 [a] = some (.flushShortlist a)) ∧
  (∀ a b : Byte, parseCommand 0x10 [a, b] = some (.readRecord ⟨a, b⟩) ∧ parseCommand 0x15 [a, b] = some (.clearField a b) ∧
    parseCommand 0x19 [a, b] = some (.retireRecord ⟨a, b⟩)) ∧
  (∀ a b c : Byte, parseCommand 0x13 [a, b, c] = some (if a = 0 then .openEditNew else .openEdit a ⟨b, c⟩) ∧
    parseCommand 0x24 [a, b, c] = some (.forceBinding a ⟨b, c⟩)) ∧
  (∀ a b c d : Byte, parseCommand 0x14 [a, b, c, d] = some (.setField a b (two c d))) ∧
  (∀ a b c d e f : Byte, parseCommand 0x11 [a, b, c, d, e, f] =
    some (if a = 0 then .listStart else .listAfter a (two b c) (two d e) f)) ∧
  (∀ a b c d e f g h i j : Byte, parseCommand 0x12 [a, b, c, d, e, f, g, h, i, j] =
    some (.findFormat (two a b) (two c d) e (two f g) h i j)) ∧
  (∀ (c : Byte) (b : Vector Byte 19), parseCommand 0x20 (c :: b.toList) = some (.configureChannel c (settingsOfBytes b))) ∧
  ∀ (b : Vector Byte 12) (d e : Byte), parseCommand 0x31 (b.toList ++ [d]) = some (.clearEvents (mapsOf b) d) ∧
    parseCommand 0x32 (b.toList ++ [d, e]) = some (.setEventMasks (mapsOf b) d e)

/-- The fields of an announcement frame stand at their places, and each check bit makes its half of the bits even (R167). The three
link outputs (R144): all low on an IDLE link and in the AN_CLK period after a completion; otherwise AN_FRM is high for the frame's
320 REFCLK periods, AN_DAT carries bit 79 first for four of them each, and AN_CLK rises in the middle of each bit (entry 19). AN_DAT
low in that period once the next frame has begun is the model's too (entry 19). -/
def Obligations.AnnouncementFrameFields : Prop :=
  (∀ s : State, (s.link = none ∨ 0 < s.linkRest) → s.anFrm = false ∧ s.anDat = false ∧ s.anClk = false) ∧
  (∀ (s : State) (k : Sending), s.link = some k → s.linkRest = 0 →
    (s.anFrm = true ↔ k.elapsed < 320) ∧
    (s.anDat = true ↔ k.elapsed < 320 ∧ k.frame.getLsbD (79 - k.elapsed / 4) = true) ∧
    (s.anClk = true ↔ k.elapsed < 320 ∧ 2 ≤ k.elapsed % 4)) ∧
  ∀ (c : Ch) (seq : BitVec 4) (a : Announced),
    let f := announceFrame c seq a
    f.extractLsb' 77 3 = BitVec.ofNat 3 c.val ∧ f.extractLsb' 73 4 = seq ∧ f.extractLsb' 70 3 = a.qualifier.code ∧
      f.extractLsb' 63 7 = a.handle.slot.setWidth 7 ∧ f.extractLsb' 55 8 = a.handle.gen ∧ f.extractLsb' 47 8 = a.rev ∧
      f.extractLsb' 31 16 = a.tag ∧ f.extractLsb' 15 16 = BitVec.ofNat 16 a.linePeriod ∧
      f.extractLsb' 3 12 = BitVec.ofNat 12 a.frameLines ∧ f.getLsbD 2 = (a.scan == .interlaced) ∧
      ((List.range 40).countP fun k => f.getLsbD (2 * k + 1)) % 2 = 0 ∧
      ((List.range 40).countP fun k => f.getLsbD (2 * k)) % 2 = 0

/-! ## Ports -/

/-- The first byte of a command frame (R151, R154, R155, R160): an EMPTY slot, or any slot where a full reset waits and takes effect
there, takes the frame; any other slot refuses it and is left as it was. -/
def Obligations.FrameStartTakesOrRefuses : Prop :=
  ∀ (p : Port) (s : State), s.resetLow = false →
    exec (.commandFrameStart p) s =
      .next (
        let s1 := if s.resetWaiting then s.fullReset else s
        let sent (ok : Bool) : List Byte := if p = .host then [if ok then 0x00 else 0x03] else []
        let acks (ok : Bool) : List Bool := if p = .host then [] else [ok]
        if (s1.port p).slot = .empty then
          s1.setPort p { slot := .receiving, refusing := false, lost := .empty, sent := sent true, acks := acks true }
        else s1.setPort p
          { slot := (s1.port p).slot, refusing := true, lost := .empty, sent := sent false, acks := acks false })

/-- The end of a command frame in RECEIVING makes the intake checks of R150 in their order. A command that passes them stands in
EXECUTING, and RESET DEVICE, whose code is 0x03, is carried out by the port at once (R152): the frame's end leaves what the command's
row leaves from EXECUTING. -/
def Obligations.FrameEndMakesTheIntakeChecks : Prop :=
  ∀ (p : Port) (bytes : List Byte) (s : State), s.resetLow = false → (s.port p).refusing = false →
    (s.port p).slot = .receiving → ∃ t, exec (.commandFrameEnd p bytes) s = .next t ∧
      let tag := bytes[1]?.getD 0
      let fails (e : Status) := t = answered s p tag e []
      if bytes.length < 4 ∨ 68 < bytes.length ∨ bytes.length ≠ (bytes[2]?.getD 0).toNat + 4 then fails .frameError
      else if crcOf bytes ≠ 0 then fails .frameError
      else match parameterLength (bytes[0]?.getD 0) with
        | none => fails .unknownCommand
        | some n =>
          if (bytes[2]?.getD 0).toNat ≠ n then fails .frameError
          else ∃ cmd, parseCommand (bytes[0]?.getD 0) ((bytes.drop 3).take n) = some cmd ∧
            let handed := s.setPort p { s.port p with slot := .executing tag cmd }
            if cmd.allowedOn p then
              if cmd.code = 0x03 then exec (cmd.row p tag) handed = .next t else t = handed
            else fails .readOnly

/-- A refused frame is discarded at its end (R151), and a part held in reset takes no frame (R161). That a port remembers the frame it
refuses is the model's (entry 22), and so is that the end of a frame that no slot receives, which cannot occur, changes nothing
(entry 3). -/
def Obligations.RefusedFrameIsDiscarded : Prop :=
  ∀ (p : Port) (bytes : List Byte) (s : State),
    (s.resetLow = false → (s.port p).refusing = true →
      exec (.commandFrameEnd p bytes) s = .next (s.setPort p { s.port p with refusing := false })) ∧
    ((s.port p).refusing = false → (s.port p).slot ≠ .receiving → exec (.commandFrameEnd p bytes) s = .next s) ∧
    (s.resetLow = true → exec (.commandFrameEnd p bytes) s = .next s ∧ exec (.commandFrameStart p) s = .next s)

/-- The end of a read of a port (R153 to R155, R160). What a read returns depends on the slot at its start: the response, or NOT_READY
with the tag of the command executing, or with tag 0, and 0x00 for each further byte. A whole response frees its slot, a waiting full
reset takes effect where the read took the host port's DONE whole, and every other read changes no slot. A read that a full reset cut
returns 0x00 for each byte after it and changes no slot. The operands, the slot remembered for a cut read, and an end that no read can
have, which changes nothing, are the model's (entries 3, 22 and 23). -/
def Obligations.ReadEndFreesTheSlot : Prop :=
  ∀ (p : Port) (ready : Bool) (taken : Nat) (s : State),
    (s.resetLow = false →
      exec (.responseReadEnd p (.whole ready) taken) s = .next (
        match (s.port p).slot, ready with
        | .ready r, true =>
          if r.data.length + 4 ≤ taken then
            if s.resetWaiting ∧ p = .host then s.fullReset.setPort p { PortState.initial with sent := bytesOf r taken }
            else s.setPort p { s.port p with slot := .empty, lost := .empty, sent := bytesOf r taken, acks := [] }
          else s.setPort p { s.port p with lost := .empty, sent := bytesOf r taken, acks := [] }
        | _, true => s
        | x, false => s.setPort p { s.port p with lost := .empty, sent := bytesOf (notReadyOf x) taken, acks := [] }) ∧
      ∀ after, exec (.responseReadEnd p (.cut ready after) taken) s = .next (
        match (s.port p).slot, readBegun (s.port p).lost ready with
        | .empty, some r => s.setPort p { s.port p with lost := .empty, sent := cutBytesOf r after taken, acks := [] }
        | _, _ => s)) ∧
    (s.resetLow = true → ∀ course, exec (.responseReadEnd p course taken) s = .next s)

/-- A host port transaction by its type byte (R154): a COMMAND is its frame's first byte and end, READ RESPONSE is a read, any other
type sends zeros and changes nothing. The model's own are the type byte as the command row's operand (entry 29), the record of the
bytes sent (entry 22), a read of a RECEIVING slot as NOT_READY with tag 0, and the slot remembered for a cut read, forgotten here
(entry 23). -/
def Obligations.HostTransactionsByType : Prop :=
  ∀ (type : Byte) (bytes : List Byte) (count : Nat) (s : State), s.resetLow = false →
    (type ≠ 0xA5 → exec (.hostCommandTransaction type bytes) s = .next (
      if type = 0x5A ∧ bytes ≠ [] then
        let t := (s.frameStart .host).frameEnd .host bytes
        { t with host := { t.host with
          lost := .empty
          sent := 0x00 :: List.replicate bytes.length
            (if s.host.slot ≠ .empty ∧ s.resetWaiting = false then 0x03 else 0x00)
          acks := [] } }
      else { s with host := { s.host with
        lost := .empty, sent := (if type = 0x5A then [0x00] else List.replicate (bytes.length + 1) 0x00), acks := [] } })) ∧
    exec (.hostReadResponse count) s = .next (
      let t := s.readEnd .host count
      { t with host := { t.host with
        lost := .empty
        sent := 0x00 :: bytesOf (match s.host.slot with | .ready r => r | x => notReadyOf x) count
        acks := [] } })

/-- A monitor port transfer (R155): the port answers its own address alone; a write's data bytes are a frame, all acknowledged or none;
a read is a read of the response. The model's own are the record of acknowledges and bytes (entry 22), a read of a RECEIVING slot as
NOT_READY with tag 0, and the slot remembered for a cut read, forgotten here (entry 23). -/
def Obligations.MonitorTransfersByAddress : Prop :=
  ∀ (address : BitVec 7) (bytes : List Byte) (count : Nat) (s : State), s.resetLow = false →
    exec (.monitorWriteTransfer address bytes) s = .next (
      if address = s.monitorAddress ∧ bytes ≠ [] then
        let t := (s.frameStart .monitor).frameEnd .monitor bytes
        { t with monitor := { t.monitor with
          lost := .empty
          sent := []
          acks := true :: List.replicate bytes.length (decide (s.monitor.slot = .empty ∨ s.resetWaiting = true)) } }
      else { s with monitor := { s.monitor with lost := .empty, sent := [], acks := [decide (address = s.monitorAddress)] } }) ∧
    exec (.monitorReadTransfer address count) s = .next (
      if address = s.monitorAddress then
        let t := s.readEnd .monitor count
        { t with monitor := { t.monitor with
          lost := .empty
          sent := bytesOf (match s.monitor.slot with | .ready r => r | x => notReadyOf x) count
          acks := [true] } }
      else { s with monitor := { s.monitor with lost := .empty, sent := [], acks := [false] } })

/-- A command's frame on a port whose slot is occupied by another changes nothing (R151), and one on an EMPTY slot is taken as it would
be from EXECUTING. Where a full reset waits, it takes effect and the frame is taken into the EMPTY slot (R160); a part held in reset
takes none (R161). The arbiter grants the first requester that has a request posted (R40), following the one granted last in the
rotating order host port, monitor port, CH0 to CH5 (R41). The model's own are the row as a whole frame and its taking (entry 2), that
a controller command's row changes nothing while the arbiter grants another requester (entry 27), and the slot remembered for a cut
read, forgotten here (entry 23). -/
def Obligations.CommandRowsFollowTheSlot : Prop :=
  (∀ (p : Port) (tag : Byte) (cmd : Cmd) (s : State),
    cmd.wellFormed = true → s.resetWaiting = false → s.resetLow = false →
    ((s.port p).slot ≠ .empty → (s.port p).slot ≠ .executing tag cmd → exec (cmd.row p tag) s = .next s) ∧
    ((s.port p).slot = .executing tag cmd → cmd.byController = true → s.arbiter ≠ some (portRequester p) →
      exec (cmd.row p tag) s = .next s) ∧
    ((s.port p).slot = .empty →
      exec (cmd.row p tag) s =
        if cmd.allowedOn p then
          exec (cmd.row p tag) (s.setPort p { s.port p with slot := .executing tag cmd, refusing := false, lost := .empty })
        else .next (s.setPort p { s.port p with
          slot := .ready { status := .readOnly, tag := tag, data := [] }, refusing := false, lost := .empty }))) ∧
  (∀ (p : Port) (tag : Byte) (cmd : Cmd) (s : State), cmd.wellFormed = true → (s.port p).slot ≠ .executing tag cmd →
    (s.resetLow = true → exec (cmd.row p tag) s = .next s) ∧
    (s.resetLow = false → s.resetWaiting = true →
      exec (cmd.row p tag) s =
        if cmd.allowedOn p then
          exec (cmd.row p tag) (s.fullReset.setPort p { PortState.initial with slot := .executing tag cmd })
        else .next (s.fullReset.setPort p { PortState.initial with
          slot := .ready { status := .readOnly, tag := tag, data := [] } }))) ∧
  (∀ s : State, s.arbiter = none ↔ ∀ r, ¬ hasPosted s r) ∧
  (∀ (s : State) (r : Fin 8), s.arbiter = some r ↔
    hasPosted s r ∧ ∀ q, hasPosted s q → turnsAfter s.granted r ≤ turnsAfter s.granted q) ∧
  portRequester .host = 0 ∧ portRequester .monitor = 1 ∧ ∀ c : Ch, (chRequester c).val = c.val + 2

/-! ## Device commands -/

/-- READ DEVICE (R157): the part and its counts, at the grant, in 31 bytes, and the state otherwise as it was. -/
def Obligations.ReadDeviceReportsThePart : Prop :=
  ∀ (p : Port) (tag : Byte) (s : State), executing s p tag .readDevice → portGranted s p →
    exec (.readDevice p tag) s = .next (answered (grantTo s p) p tag .done s.encodeDevice) ∧
      s.encodeDevice.length = 31 ∧
      s.encodeDevice.take 6 =
        [0x06, 0x96, 1, BitVec.ofNat 8 (s.countSlots .live), BitVec.ofNat 8 (s.countSlots .retiring),
         BitVec.ofNat 8 (s.countSlots .free)] ∧
      s.countSlots .live + s.countSlots .retiring + s.countSlots .free = 96 ∧
      (∀ x, s.countSlots x = (List.range 96).countP fun n => (s.slot n).state == x) ∧
      (∀ id : Fin 4, (s.encodeDevice[6]?.getD 0).getLsbD id.val = (s.edit id).isSome) ∧
      (s.encodeDevice.drop 7).take 17 = BitVec.ofNat 8 s.retiring.length ::
        ((s.retiring.flatMap fun (e : RetireEntry) => [e.handle.slot, e.handle.gen]) ++ List.replicate 16 0x00).take 16 ∧
      s.encodeDevice.drop 24 =
        [BitVec.ofNat 8 (s.time.refclk / 65536), BitVec.ofNat 8 (s.time.refclk / 256), BitVec.ofNat 8 s.time.refclk] ++
          [BitVec.ofNat 8 s.time.divider, BitVec.ofNat 8 s.time.lease, BitVec.ofNat 8 s.time.retire,
           (if s.time.announce then 1 else 0)]

/-- SETUP DEVICE (R61, R145, R158): RANGE, then CLOCK_LOCKED, then the five settings together. -/
def Obligations.SetupDeviceChangesTheTimeBase : Prop :=
  ∀ (p : Port) (tag : Byte) (refclk : BitVec 24) (divider lease retire announce : Byte) (s : State),
    executing s p tag (.setupDevice refclk divider lease retire announce) →
      exec (.setupDevice p tag refclk divider lease retire announce) s =
        .next (setupNext p tag refclk divider lease retire announce s)

/-- RESET DEVICE FULL (R152, R160): at the end of its frame DONE is placed at once. By its row too DONE is placed, nothing is
reset yet, and the reset waits; it takes effect at the first byte of a command frame on either port, which is taken. What the
other port's slot held is remembered for a read that the reset cut (entry 23). -/
def Obligations.FullResetWaitsForItsTrigger : Prop :=
  (∀ (tag : Byte) (s : State), s.resetLow = false → s.host.refusing = false → s.host.slot = .receiving →
    exec (.commandFrameEnd .host (Cmd.resetFull.frame tag)) s =
      .next (answered { s with resetWaiting := true } .host tag .done [])) ∧
  ∀ (p q : Port) (tag : Byte) (s : State), executing s p tag .resetFull → s.resetLow = false →
    exec (.resetDeviceFull p tag) s = .next (answered { s with resetWaiting := true } p tag .done []) ∧
      ∃ t, exec (.commandFrameStart q) (answered { s with resetWaiting := true } p tag .done []) = .next t ∧
        (t.port q).slot = .receiving ∧
        (∀ r, r ≠ q → t.port r = { PortState.initial with
          lost := ((answered { s with resetWaiting := true } p tag .done []).port r).slot }) ∧
        { t with host := PortState.initial, monitor := PortState.initial } =
          { State.reset with
            maLevel := s.maLevel, monitorAddress := (if s.maLevel then 0x3B else 0x3A), choices := s.choices,
            pending := s.pending }

/-- RESET DEVICE with a parameter other than FULL (R159): RANGE, or a channel reset: every channel stops as STOP CHANNEL does (R108),
the channel flags are cleared and no other flag or enable is (R175; in one step with the channels' own resets, entry 31), and the
catalogue, the edit contexts, the pending-retire set, the time base and the requester granted last are as they were (R22, R39, R46).
The port takes it at once (R152): the end of its frame leaves what its row leaves from EXECUTING. -/
def Obligations.ChannelResetStopsEveryChannel : Prop :=
  (∀ (tag sel : Byte) (s : State), sel ≠ 0 → s.resetLow = false → s.host.refusing = false → s.host.slot = .receiving →
    exec (.commandFrameEnd .host ((Cmd.resetOther sel).frame tag)) s =
      exec (.resetDeviceChannels .host tag sel) { s with host := { s.host with slot := .executing tag (.resetOther sel) } }) ∧
  ∀ (p : Port) (tag sel : Byte) (s : State), sel ≠ 0 → executing s p tag (.resetOther sel) → s.channelsLawful = true →
    ∃ t, exec (.resetDeviceChannels p tag sel) s = .next t ∧
      if sel ≠ 1 then t = answered s p tag .range []
      else
        (∀ c, t.ch c = if (s.ch c).acq = .off then s.ch c else stopped (s.ch c)) ∧
        (∀ c, t.flagsOf c = 0 ∧ t.enablesOf c = s.enablesOf c) ∧ t.events.device = s.events.device ∧
        t.events.deviceEnables = s.events.deviceEnables ∧ t.events.pinDisable = s.events.pinDisable ∧
        (t.port p).slot = .ready { status := .done, tag := tag, data := [] } ∧ (∀ q, q ≠ p → t.port q = s.port q) ∧
        t.slots = s.slots ∧ t.index = s.index ∧ t.edits = s.edits ∧ t.retiring = s.retiring ∧ t.granted = s.granted ∧
        t.choices = s.choices ∧ sameOutside s t

/-- A channel reset at the serializer (R147): each channel whose announced state was not NONE makes one NONE announcement with the next
sequence number, and its entry replaces any that was pending; every other channel keeps its announced state, number and entry; the
last-sent numbers, the last-sent channel and the link are as they were, but for the frame that begins by R143 in rotation where the
link is IDLE and the enable on. That the entries of all channels are placed before that frame begins is the model's (entry 9). -/
def Obligations.ChannelResetAnnouncesNone : Prop :=
  ∀ (p : Port) (tag : Byte) (s : State), executing s p tag (.resetOther 1) → s.channelsLawful = true →
    s.announceLawful = true → ∃ t, exec (.resetDeviceChannels p tag 1) s = .next t ∧
      (∀ c, (t.ann c).announced = Announced.nothing ∧
        (t.ann c).seq = if (s.ann c).announced = Announced.nothing then (s.ann c).seq else (s.ann c).seq + 1) ∧
      let told := { s with announcer := Vector.ofFn fun c : Fin 6 =>
        if (s.ann c).announced = Announced.nothing then s.ann c
        else
          { announced := Announced.nothing, seq := (s.ann c).seq + 1,
            entry := some (Announced.nothing, (s.ann c).seq + 1), lastSent := (s.ann c).lastSent } }
      t.announcer = (sending told).announcer ∧ t.link = (sending told).link ∧ t.lastSent = (sending told).lastSent ∧
        t.linkRest = s.linkRest ∧ (s.link ≠ none → t.link = s.link ∧ t.lastSent = s.lastSent ∧ t.announcer = told.announcer)

/-! ## Reads of the catalogue -/

/-- A record body in its 19 bytes (R165), with record A of the worked examples. The body of a record whose required fields are set, as a
working body, has the same thirteen fields (R10, R23), and a number of two bytes is sent most significant byte first (R163). -/
def Obligations.RecordBodyEncoding : Prop :=
  (∀ b : Body, b.toWork =
    { linePeriod := some b.linePeriod, lineTol := b.lineTol, frameLines := some b.frameLines, frameTol := b.frameTol,
      scan := b.scan, syncWidth := b.syncWidth, linePolarity := b.linePolarity, verticalPolarity := b.verticalPolarity,
      verifyBlock := b.verifyBlock, priority := b.priority, cls := b.cls, protect := b.protect, tag := b.tag }) ∧
  (∀ (w : WorkBody) (b : Body), w.toBody = some b ↔ w = b.toWork) ∧
  (∀ n : Nat, bytes2 n = [BitVec.ofNat 8 (n / 256), BitVec.ofNat 8 n]) ∧
  (∀ w : WorkBody, w.encode.length = 19 ∧
    w.encode.drop 1 = bytes2 (w.linePeriod.getD 0) ++ bytes2 w.lineTol ++ bytes2 (w.frameLines.getD 0) ++
      [BitVec.ofNat 8 w.frameTol, (if w.scan = .progressive then 1 else 2),
       BitVec.ofNat 8 (w.syncWidth.getD (0, 0)).1, BitVec.ofNat 8 (w.syncWidth.getD (0, 0)).2,
       (match w.linePolarity with | none => 0 | some .positive => 1 | some .negative => 2),
       (match w.verticalPolarity with | none => 0 | some .positive => 1 | some .negative => 2),
       BitVec.ofNat 8 (w.verifyBlock.getD 0), BitVec.ofNat 8 w.priority, BitVec.ofNat 8 w.cls,
       (if w.protect then 1 else 0)] ++ bytes2 w.tag.toNat ∧
    ∀ k < 8, (w.encode[0]?.getD 0).getLsbD k =
      ([w.linePeriod.isSome, w.frameLines.isSome, w.syncWidth.isSome, w.linePolarity.isSome, w.verticalPolarity.isSome,
        w.verifyBlock.isSome][k]?.getD false)) ∧
    ({ linePeriod := some 1600, lineTol := 6, frameLines := some 625, frameTol := 2, scan := .interlaced, syncWidth := none,
       linePolarity := none, verticalPolarity := none, verifyBlock := some 40, priority := 1, cls := 0, protect := false,
       tag := 0x0101 } : WorkBody).encode =
      [0x23, 0x06, 0x40, 0x00, 0x06, 0x02, 0x71, 2, 2, 0, 0, 0, 0, 40, 1, 0, 0, 0x01, 0x01]

/-- READ RECORD (R19): BAD_HANDLE, STALE, or the record. LIST RECORDS (R20): the first four records that follow the parameter in
index order, and the end indication. The state is otherwise as it was. A handle is current while its slot is not FREE and has its generation
(R6); the handle of a record is its slot's number and generation. -/
def Obligations.ReadRecordAndListRecords : Prop :=
  (∀ (p : Port) (tag : Byte) (s : State), portGranted s p →
    (∀ h, executing s p tag (.readRecord h) → exec (.readRecord p tag h) s = .next (readRecordNext p tag h s)) ∧
    (executing s p tag .listStart →
      exec (.listRecordsStart p tag) s = .next (answered (grantTo s p) p tag .done (listing s s.index))) ∧
    ∀ (sel : Byte) (lp fl : BitVec 16) (scan : Byte), sel ≠ 0 → executing s p tag (.listAfter sel lp fl scan) →
      exec (.listRecordsAfterKey p tag sel lp fl scan) s = .next (listAfterNext p tag sel lp fl scan s)) ∧
  ∀ (s : State),
    (∀ h, s.current h = true ↔
      h.slot.toNat < 96 ∧ (s.slot h.slot.toNat).state ≠ .free ∧ (s.slot h.slot.toNat).gen = h.gen) ∧
    (∀ h, s.currentLive h = true ↔ s.current h = true ∧ (s.slot h.slot.toNat).state = .live) ∧
    (∀ h, s.record h = s.slot h.slot.toNat) ∧
    ∀ n, s.handleOf n = { slot := BitVec.ofNat 8 n, gen := (s.slot n).gen } ∧ s.keyAt n = (s.slot n).body.key

/-- The order of match keys (R15): LINE_PERIOD, then FRAME_LINES, then PROGRESSIVE before INTERLACED; of two keys exactly one is less,
or they are equal; and the order is transitive. The key of a record is those three fields of its body. -/
def Obligations.MatchKeysAreOrdered : Prop :=
  (∀ b : Body, b.key = ⟨b.linePeriod, b.frameLines, b.scan⟩) ∧
  (∀ a b : Key, a = b ↔ a.linePeriod = b.linePeriod ∧ a.frameLines = b.frameLines ∧ a.scan = b.scan) ∧
  (∀ a b : Key, a.less b = true ↔
    a.linePeriod < b.linePeriod ∨
      (a.linePeriod = b.linePeriod ∧
        (a.frameLines < b.frameLines ∨
          (a.frameLines = b.frameLines ∧ a.scan = .progressive ∧ b.scan = .interlaced)))) ∧
  (∀ a b : Key, a.less b = true ∨ a = b ∨ b.less a = true) ∧
  (∀ a b : Key, a.less b = true → a ≠ b ∧ b.less a = false) ∧
  (∀ a b c : Key, a.less b = true → b.less c = true → a.less c = true) ∧
  Key.less ⟨1600, 625, .interlaced⟩ ⟨1620, 600, .progressive⟩ = true ∧
  Key.less ⟨1600, 625, .progressive⟩ ⟨1600, 625, .interlaced⟩ = true ∧
  Key.less ⟨1600, 624, .interlaced⟩ ⟨1600, 625, .interlaced⟩ = true

/-- The acquire window, the two release windows and the re-verify test (R47 to R49). -/
def Obligations.WindowTests : Prop :=
  (∀ (v : Slot) (m : Measurement) (k : Byte), v.acquires m k = true ↔
    v.state = .live ∧ k.getLsbD v.body.cls = true ∧ m.scan = some v.body.scan ∧
      (m.linePeriod - v.body.linePeriod : Int).natAbs ≤ v.body.lineTol ∧
      (m.frameLines - v.body.frameLines : Int).natAbs ≤ v.body.frameTol ∧
      (∀ low high, v.body.syncWidth = some (low, high) → low ≤ m.syncWidth ∧ m.syncWidth ≤ high) ∧
      (∀ q, v.body.linePolarity = some q → m.linePolarity = some q) ∧
      (∀ q, v.body.verticalPolarity = some q → m.verticalPolarity = some q)) ∧
  (∀ (b : Body) (cfg : Settings) (a : Nat), b.lineReleaseInside cfg a = true ↔
    (a - b.linePeriod : Int).natAbs ≤ b.lineTol + cfg.marginTicks) ∧
  (∀ (b : Body) (cfg : Settings) (v : Nat), b.frameReleaseInside cfg v = true ↔
    frameDistance b v ≤ b.frameTol + cfg.marginLines) ∧
  (∀ (b : Body) (cfg : Settings) (m : Measurement), b.reverifies cfg m = true ↔
    (m.linePeriod - b.linePeriod : Int).natAbs ≤ b.lineTol + cfg.marginTicks ∧
      (m.frameLines - b.frameLines : Int).natAbs ≤ b.frameTol + cfg.marginLines ∧ cfg.classMask.getLsbD b.cls = true ∧
      m.scan = some b.scan ∧ (∀ low high, b.syncWidth = some (low, high) → low ≤ m.syncWidth ∧ m.syncWidth ≤ high) ∧
      (∀ q, b.linePolarity = some q → m.linePolarity = some q) ∧
      (∀ q, b.verticalPolarity = some q → m.verticalPolarity = some q))

/-- Selection among records listed in index order (R50): none only where none is listed; otherwise the selected record is listed, no
listed one is better on the first three criteria, and it is strictly better than every one listed before it. A match request and
FIND FORMAT select over the LIVE records that pass the acquire window, a rematch over those that a usable shortlist entry names. -/
def Obligations.SelectionFollowsTheFourCriteria : Prop :=
  (∀ (s : State) (m : Measurement) (l : List Nat),
    (s.select m l = none ↔ l = []) ∧
      ∀ n, s.select m l = some n →
        (∀ k ∈ l, ¬ better m (s.slot k).body (s.slot n).body) ∧
          ∃ before rest, l = before ++ n :: rest ∧ ∀ k ∈ before, better m (s.slot n).body (s.slot k).body) ∧
  ∀ (s : State) (m : Measurement) (k : Byte) (shortlist : List ShortEntry),
    s.search m k = s.select m (s.index.filter fun n => (s.slot n).acquires m k) ∧
      s.quickSearch m k shortlist = s.select m (s.index.filter fun n =>
        (shortlist.any fun e => e.handle.slot.toNat == n && (s.slot n).gen == e.handle.gen && (s.slot n).rev == e.rev) &&
          (s.slot n).acquires m k)

/-- FIND FORMAT (R51): RANGE for a code that is not listed; NO_MATCH where no LIVE record passes the acquire window; otherwise the
handle and revision of the record selected by R50 among those that pass: none of them is better on the first three criteria, and the
named one is better than every one before it in index order. The state is otherwise as it was. -/
def Obligations.FindFormatNamesTheSelectedRecord : Prop :=
  ∀ (p : Port) (tag : Byte) (lp fl : BitVec 16) (scan : Byte) (sw : BitVec 16) (lpol vpol mask : Byte) (s : State),
    executing s p tag (.findFormat lp fl scan sw lpol vpol mask) → portGranted s p →
      let m := presented lp fl scan sw lpol vpol
      let passing := s.index.filter fun n => (s.slot n).acquires m mask
      exec (.findFormat p tag lp fl scan sw lpol vpol mask) s = .next (
        if coded scan && coded lpol && coded vpol then
          match s.select m passing with
          | none => answered (grantTo s p) p tag .noMatch []
          | some n => answered (grantTo s p) p tag .done [BitVec.ofNat 8 n, (s.slot n).gen, (s.slot n).rev]
        else answered (grantTo s p) p tag .range []) ∧
      (s.indexLaw = true →
        (s.select m passing = none ↔ ∀ n < 96, (s.slot n).acquires m mask = false) ∧
        ∀ n, s.select m passing = some n → n < 96 ∧ (s.slot n).acquires m mask = true ∧
          (∀ k < 96, (s.slot k).acquires m mask = true → ¬ better m (s.slot k).body (s.slot n).body) ∧
          ∃ before rest, s.index = before ++ n :: rest ∧
            ∀ k ∈ before, (s.slot k).acquires m mask = true → better m (s.slot n).body (s.slot k).body)

/-- The build of a shortlist (R57): of the LIVE records of accepted class within the neighbourhood that are not the bound one, the three
nearest, equal distances in index order; no two entries name the same record, and none the bound one. -/
def Obligations.ShortlistHoldsTheNearest : Prop :=
  ∀ (s : State) (p : Nat) (cfg : Settings) (bound : Option Handle),
    let far (n : Nat) : Nat := ((s.slot n).body.linePeriod - p : Int).natAbs
    let candidates := s.index.filter fun n =>
      (s.slot n).state == .live && cfg.classMask.getLsbD (s.slot n).body.cls && bound != some (s.handleOf n) &&
        decide (far n ≤ cfg.neighbourhood)
    ∃ order : List Nat, order.Perm candidates ∧ order.Pairwise (fun a b => far a ≤ far b) ∧
      (∀ d, (order.filter fun n => far n == d) = candidates.filter fun n => far n == d) ∧
      s.buildShortlist p cfg bound =
        (order.take 3).map (fun n => { handle := s.handleOf n, rev := (s.slot n).rev : ShortEntry }) ∧
      (s.indexLaw = true → ((s.buildShortlist p cfg bound).map ShortEntry.handle).Nodup) ∧
      ∀ e ∈ s.buildShortlist p cfg bound, bound ≠ some e.handle

/-! ## Editing -/

/-- OPEN EDIT (R25, R26, R37, R164): its checks in their order, and the context and mark it opens. -/
def Obligations.OpenEditOpensTheLowestFreeContext : Prop :=
  ∀ (p : Port) (tag : Byte) (s : State), portGranted s p →
    (executing s p tag .openEditNew → exec (.openEditNew p tag) s = .next (openNewNext p tag s)) ∧
    ∀ (sel : Byte) (h : Handle), sel ≠ 0 → executing s p tag (.openEdit sel h) →
      exec (.openEdit p tag sel h) s = .next (openEditNext p tag sel h s)

/-- SET FIELD and CLEAR FIELD (R27 to R29, R37): NO_EDIT, RANGE with the lease reloaded, or the field's new state. READ EDIT (R30)
reports the context with its lease reloaded, and DROP EDIT (R31) frees it. That READ EDIT reports a NEW target with a handle of 0, 0 is
the model's (entry 33). -/
def Obligations.EditCommandsActOnTheWorkingBody : Prop :=
  ∀ (p : Port) (tag id : Byte) (s : State), portGranted s p →
    (∀ field value, executing s p tag (.setField id field value) →
      exec (.setField p tag id field value) s = .next (setFieldNext p tag id field value s)) ∧
    (∀ field, executing s p tag (.clearField id field) →
      exec (.clearField p tag id field) s = .next (clearFieldNext p tag id field s)) ∧
    (executing s p tag (.readEdit id) → exec (.readEdit p tag id) s = .next (readEditNext p tag id s)) ∧
    (executing s p tag (.dropEdit id) → exec (.dropEdit p tag id) s = .next (dropEditNext p tag id s))

/-- A lease expiry (R38): the context goes FREE, its target's edit mark is cleared and EDIT_EXPIRED is set. -/
def Obligations.LeaseExpiryFreesTheContext : Prop :=
  ∀ (id : Fin 4) (e : EditContext) (s : State), s.edit id = some e → ∃ t, exec (.leaseExpiry id) s = .next t ∧
    t.edit id = none ∧ (∀ k, k ≠ id → t.edit k = s.edit k) ∧ t.hasDeviceFlag .editExpired = true ∧
    t = { contextFreed s id e with events := { s.events with device := s.events.device ||| 0x4 } }

/-- COMMIT EDIT refused (R32, R33, R37): the checks in their order; the context stays OPEN with its lease reloaded, and nothing else
changes. -/
def Obligations.CommitRefusedChangesNothing : Prop :=
  ∀ (p : Port) (tag id : Byte) (s : State), executing s p tag (.commitEdit id) → portGranted s p → s.indexLaw = true →
    (openContext s id = none → exec (.commitEdit p tag id) s = .next (answered (grantTo s p) p tag .noEdit [])) ∧
    ∀ k e status, openContext s id = some (k, e) → commitError s e = some status →
      exec (.commitEdit p tag id) s =
        .next (answered ((grantTo s p).setEdit k (some (leaseLoaded s e))) p tag status [])

/-- COMMIT EDIT of a NEW context (R34, R36): the lowest-numbered FREE slot takes the body, the index takes the record at its place, the
context goes FREE, and every channel takes the marks of R36 and nothing else, in whatever order they are served. -/
def Obligations.CommitNewCreatesARecord : Prop :=
  ∀ (p : Port) (tag id : Byte) (k : Fin 4) (e : EditContext) (body : Body) (n : Nat) (s : State),
    executing s p tag (.commitEdit id) → portGranted s p → s.indexLaw = true → openContext s id = some (k, e) →
    commitError s e = none → e.target = none → e.body.toBody = some body → n < 96 → (s.slot n).state = .free →
    (∀ m < n, (s.slot m).state ≠ .free) →
      ∃ t, exec (.commitEdit p tag id) s = .next t ∧
        t.slot n = { state := .live, gen := (s.slot n).gen, rev := 0, count := 0, mark := none, body := body } ∧
        (∀ m, m ≠ n → t.slot m = s.slot m) ∧ t.indexLaw = true ∧ (t.index.filter fun m => m != n) = s.index ∧
        t.edit k = none ∧ (∀ j, j ≠ k → t.edit j = s.edit j) ∧ (∀ c, t.ch c = marked t n (s.ch c)) ∧
        (t.port p).slot = .ready { status := .done, tag := tag, data := [BitVec.ofNat 8 n, (s.slot n).gen, 0] } ∧
        (∀ q, q ≠ p → t.port q = s.port q) ∧ t.granted = portRequester p ∧ t.retiring = s.retiring ∧
        t.announcer = s.announcer ∧ t.link = s.link ∧ t.lastSent = s.lastSent ∧ t.events = s.events ∧
        sameOutside s t

/-- COMMIT EDIT of an amendment (R35, R36, R112, R113): the whole body is replaced and the revision counts on; a record whose key is
unchanged keeps its place; every channel takes its notice; a FROZEN or FORCED one bound to the record takes the amendment up with
RECORD_AMENDED. -/
def Obligations.CommitAmendsTheRecord : Prop :=
  ∀ (p : Port) (tag id : Byte) (k : Fin 4) (e : EditContext) (body : Body) (h : Handle) (s : State),
    executing s p tag (.commitEdit id) → portGranted s p → s.indexLaw = true → s.editLaw = true →
    openContext s id = some (k, e) → commitError s e = none → e.target = some h → e.body.toBody = some body →
      ∃ t, exec (.commitEdit p tag id) s = .next t ∧
        t.record h = { s.record h with body := body, rev := (s.record h).rev + 1, mark := none } ∧
        (∀ m, m ≠ h.slot.toNat → t.slot m = s.slot m) ∧ t.indexLaw = true ∧ t.index.Perm s.index ∧
        ((s.record h).body.key = body.key → t.index = s.index) ∧ t.edit k = none ∧ (∀ j, j ≠ k → t.edit j = s.edit j) ∧
        (∀ c, t.ch c = marked t h.slot.toNat (amended t h.slot.toNat (s.ch c))) ∧
        (∀ c f, t.hasFlag c f = (s.hasFlag c f ||
          (f == .recordAmended && (holds t h.slot.toNat (s.ch c) && ((s.ch c).acq == .frozen || (s.ch c).acq == .forced))))) ∧
        (t.port p).slot = .ready { status := .done, tag := tag, data := [h.slot, h.gen, (s.record h).rev + 1] } ∧
        ((∀ c, holds t h.slot.toNat (s.ch c) = true → (s.ch c).acq ≠ .frozen ∧ (s.ch c).acq ≠ .forced) →
          t.announcer = s.announcer ∧ t.link = s.link ∧ t.lastSent = s.lastSent) ∧
        (∀ c, t.enablesOf c = s.enablesOf c) ∧ t.events.device = s.events.device ∧
        t.events.deviceEnables = s.events.deviceEnables ∧ t.events.pinDisable = s.events.pinDisable ∧
        (∀ q, q ≠ p → t.port q = s.port q) ∧ t.granted = portRequester p ∧ t.retiring = s.retiring ∧ sameOutside s t

/-! ## Retirement -/

/-- RETIRE RECORD refused changes nothing (R114), and one accepted with binding count 0 frees the slot at once (R115). That the FREE slot
keeps its revision and holds a blank body is the model's (entry 13). -/
def Obligations.RetireRefusedOrFreedAtOnce : Prop :=
  ∀ (p : Port) (tag : Byte) (h : Handle) (s : State), executing s p tag (.retireRecord h) → portGranted s p →
    retireError s h ≠ none ∨ (s.record h).count = 0 →
      exec (.retireRecord p tag h) s = .next (retireAtOnceNext p tag h s)

/-- RETIRE RECORD accepted with bindings (R116 to R120, R123): FROZEN, FORCED and held channels let go at once. Where others remain
bound, the record is RETIRING with its retire timer loaded, and the answer is PENDING; where none does, the slot is FREE with
RETIRE_DONE set, and the answer is DONE, for a FROZEN channel in ONE_SHOT too (entry 32). The model's own are what a FREE slot holds
(entry 13) and that a FORCED channel's entry to SEEKING drops the predecessor interval (entry 12). -/
def Obligations.RetireWithBindings : Prop :=
  ∀ (p : Port) (tag : Byte) (h : Handle) (s : State), executing s p tag (.retireRecord h) → portGranted s p →
    s.channelsLawful = true → s.catalogueLawful = true → retireError s h = none → 0 < (s.record h).count →
      let gone := channels.countP fun c => letsGo h (s.ch c)
      ∃ t, exec (.retireRecord p tag h) s = .next t ∧ t.index = (s.index.filter fun n => n != h.slot.toNat) ∧
        (∀ m, m ≠ h.slot.toNat → t.slot m = s.slot m) ∧ t.edits = s.edits ∧ t.granted = portRequester p ∧ sameOutside s t ∧
        (∀ q, q ≠ p → t.port q = s.port q) ∧
        (∀ c, t.ch c =
          if letsGo h (s.ch c) then letGo (s.ch c)
          else if (s.ch c).acq = .locked ∧ (s.ch c).bound = some h then { s.ch c with rematch := true }
          else s.ch c) ∧
        (∀ c f, t.hasFlag c f = (s.hasFlag c f ||
          (letsGo h (s.ch c) && (f == .bindingReleased || (f == .holdEnded && (s.ch c).generator.isSome))))) ∧
        (∀ c, letsGo h (s.ch c) = true → (t.ann c).announced = Announced.nothing) ∧
        (∀ c, t.enablesOf c = s.enablesOf c) ∧ t.events.deviceEnables = s.events.deviceEnables ∧
        t.events.pinDisable = s.events.pinDisable ∧
        if gone < (s.record h).count then
          t.record h = { s.record h with state := .retiring, count := (s.record h).count - gone } ∧
          t.retiring = s.retiring ++ [{ handle := h, timer := { units := s.time.retire, elapsed := 0 } }] ∧
          t.events.device = s.events.device ∧
          (t.port p).slot = .ready { status := .pending, tag := tag, data := [h.slot, h.gen] }
        else
          t.record h = freed (s.record h) ∧ t.retiring = s.retiring ∧ t.events.device = s.events.device ||| 0x1 ∧
          (t.port p).slot = .ready { status := .done, tag := tag, data := [h.slot, h.gen] }

/-- The lowering of a binding count (R110, R123): one less; and where that brings the count of a RETIRING record to 0, the slot goes FREE,
its pending-retire entry is removed and RETIRE_DONE is set. The raising of a count is one more, and a channel's binding, holding or
departing, names one record (R82, R110). What a FREE slot holds (entry 13) and that a count of 0 is not lowered
(entry 24) are the model's. -/
def Obligations.LastReleaseCompletesARetirement : Prop :=
  (∀ (h : Handle) (s : State),
    s.countUp h = s.setSlot h.slot.toNat { s.record h with count := (s.record h).count + 1 }) ∧
  (∀ (ch : Channel), ch.bound =
    match ch.binding with
    | .none => none
    | .holding b => some b.handle
    | .departing d => some d.handle) ∧
  ∀ (h : Handle) (s : State), s.current h = true →
    s.countDown h =
      if (s.record h).state = .retiring ∧ (s.record h).count ≤ 1 then
        { s.setSlot h.slot.toNat (freed (s.record h)) with
          retiring := s.retiring.filter fun e => e.handle != h
          events := { s.events with device := s.events.device ||| 0x1 } }
      else s.setSlot h.slot.toNat { s.record h with count := (s.record h).count - 1 }

/-- The expiry of a retire timer (R125): every binding to the record is released, both device flags are set, the retirement completes,
a LOCKED or DRIFTING channel bound to it is in MEASURING with LOCK_LOST and BINDING_RELEASED, and a channel whose binding to it departs
has its posted release served as at a grant. What the FREE slot holds is the model's (entry 13), and what a served release sets rests
on entries 15 and 16. -/
def Obligations.RetireTimerForcesTheRelease : Prop :=
  ∀ (h : Handle) (s : State), s.channelsLawful = true → s.catalogueLawful = true →
    (s.retiring.any fun e => e.handle == h) = true →
      ∃ t, exec (.retireTimerExpiry h) s = .next t ∧ t.current h = false ∧ t.record h = freed (s.record h) ∧
        (∀ m, m ≠ h.slot.toNat → t.slot m = { s.slot m with count := (t.slot m).count }) ∧
        t.retiring = (s.retiring.filter fun e => e.handle != h) ∧ t.events.device = s.events.device ||| 0x3 ∧
        (∀ c, t.enablesOf c = s.enablesOf c) ∧ t.events.deviceEnables = s.events.deviceEnables ∧
        t.events.pinDisable = s.events.pinDisable ∧ (∀ c, (t.ch c).bound ≠ some h) ∧
        (∀ c, (s.ch c).bound ≠ some h → t.ch c = s.ch c ∧ t.flagsOf c = s.flagsOf c) ∧
        (∀ c b, (s.ch c).binding = .holding b → b.handle = h →
          t.ch c = released (s.ch c) ∧ (t.ann c).announced = Announced.nothing ∧
            ∀ f, t.hasFlag c f = (s.hasFlag c f || f == .lockLost || f == .bindingReleased)) ∧
        (∀ c d hold, (s.ch c).binding = .departing d → d.handle = h → (s.ch c).request = some (.release hold) →
          t.ch c = (releaseNext c hold s).ch c ∧ t.flagsOf c = (releaseNext c hold s).flagsOf c ∧
            (t.ann c).announced = announcedOf (t.ch c)) ∧
        t.index = s.index ∧ t.edits = s.edits ∧ t.granted = s.granted ∧ t.host = s.host ∧ t.monitor = s.monitor ∧
        sameOutside s t

/-! ## Channel commands -/

/-- CONFIGURE CHANNEL (R80): CHANNEL_STATE outside OFF, RANGE, or the sixteen settings taken together. START CHANNEL (R83) takes an OFF
channel to SEEKING. A channel above 5 is BAD_CHANNEL. -/
def Obligations.ConfigureAndStartActOnAnOffChannel : Prop :=
  ∀ (p : Port) (tag channel : Byte) (s : State),
    (∀ r, executing s p tag (.configureChannel channel r) →
      exec (.configureChannel p tag channel r) s = .next (configureNext p tag channel r s)) ∧
    (executing s p tag (.startChannel channel) → s.channelsLawful = true →
      exec (.startChannel p tag channel) s = .next (startNext p tag channel s))

/-- STOP CHANNEL (R101) and REARM CHANNEL (R102): the binding departs quietly, a hold ends, and the channel is OFF or in SEEKING. That
REARM's entry to SEEKING drops the predecessor interval is the model's (entry 12). -/
def Obligations.StopAndRearmLetTheBindingGo : Prop :=
  ∀ (p : Port) (tag channel : Byte) (s : State), s.channelsLawful = true →
    (executing s p tag (.stopChannel channel) →
      exec (.stopChannel p tag channel) s = .next (stopNext p tag channel s)) ∧
    (executing s p tag (.rearmChannel channel) →
      exec (.rearmChannel p tag channel) s = .next (rearmNext p tag channel s))

/-- FLUSH SHORTLIST (R103): the shortlist is emptied in every state, and the shortlist stale mark is set in LOCKED alone; a rematch that
searches the empty list finds nothing. The monitor port does not accept it. -/
def Obligations.FlushShortlistEmptiesTheList : Prop :=
  ∀ (p : Port) (tag channel : Byte) (s : State), executing s p tag (.flushShortlist channel) →
    exec (.flushShortlist p tag channel) s = .next (flushNext p tag channel s) ∧
      (∀ (t : State) (m : Measurement) (k : Byte), t.quickSearch m k [] = none) ∧
      (Cmd.flushShortlist channel).allowedOn .monitor = false

/-- READ CHANNEL (R162, R166) and READ MEASUREMENT (R77, R166) report a channel in 23 and 16 bytes and change nothing but the port's
slot. -/
def Obligations.ChannelReadsReportTheChannel : Prop :=
  ∀ (p : Port) (tag channel : Byte) (s : State),
    (executing s p tag (.readChannel channel) →
      exec (.readChannel p tag channel) s = .next (onChannel p tag channel s fun c =>
        answered s p tag .done (channelBytes c (s.ch c) (s.ann c)))) ∧
    (executing s p tag (.readMeasurement channel) →
      exec (.readMeasurement p tag channel) s = .next (onChannel p tag channel s fun c =>
        answered s p tag .done (measurementBytes c (s.ch c).record))) ∧
    ∀ c : Ch, (channelBytes c (s.ch c) (s.ann c)).length = 23 ∧ (measurementBytes c (s.ch c).record).length = 16

/-- FORCE BINDING (R56, R97): its checks in their order, or the channel is FORCED and bound to the record at once, with the counts of
both records moved by the same serving (R110). -/
def Obligations.ForceBindingBindsAtOnce : Prop :=
  ∀ (p : Port) (tag channel : Byte) (h : Handle) (s : State), executing s p tag (.forceBinding channel h) → portGranted s p →
    exec (.forceBinding p tag channel h) s = .next (forceNext p tag channel h s)

/-! ## Requests -/

/-- A match request served (R52, R87, R135): the record selected among the LIVE ones that pass the acquire window is bound, and the
channel is LOCKED, or FROZEN in ONE_SHOT; where none passes it is UNMATCHED, or FROZEN without a binding. -/
def Obligations.MatchRequestLocksOrFindsNone : Prop :=
  ∀ (c : Ch) (m : Measurement) (s : State), (s.ch c).request = some (.acquire m) → channelGranted s c →
    exec (.matchRequest c) s =
      .next (match s.select m (s.index.filter fun n => (s.slot n).acquires m (s.ch c).settings.classMask) with
        | some n => matchFoundNext c m n s
        | none => matchNoneNext c s)

/-- A rematch request served (R53, R58, R95): the record selected among the LIVE ones that a usable shortlist entry names and that pass
the acquire window is bound; where there is none, the binding is released. A shortlist rebuild served (R54, R94): the shortlist is
built afresh about the line period the request carries. -/
def Obligations.RematchAndRebuildServeABoundChannel : Prop :=
  ∀ (c : Ch) (s : State), channelGranted s c →
    (∀ m, (s.ch c).request = some (.rematch m) →
      exec (.rematchRequest c) s =
        .next (match s.select m (s.index.filter fun n =>
            ((s.ch c).shortlist.any fun e => e.handle.slot.toNat == n && (s.slot n).gen == e.handle.gen &&
              (s.slot n).rev == e.rev) && (s.slot n).acquires m (s.ch c).settings.classMask) with
          | some n => reboundNext c m n s
          | none => releasedNext c s)) ∧
    ∀ linePeriod, (s.ch c).request = some (.rebuild linePeriod) →
      exec (.shortlistRebuild c) s = .next (rebuildNext c linePeriod s)

/-- A release request served at a lawful channel (R55, R99, R110, R111, R130, R131): the binding is released, and the record its hold
option holds is bound with the generator RUNNING. That BINDING_RELEASED is set after every cause that is not quiet is entry 15, and
when a new hold sets RECORD_AMENDED is entry 16. -/
def Obligations.ReleaseRequestReleasesOrHolds : Prop :=
  ∀ (c : Ch) (hold : HoldOption) (s : State), (s.ch c).request = some (.release hold) → channelGranted s c →
    (s.ch c).lawful = true → exec (.releaseRequest c) s = .next (releaseNext c hold s)

/-! ## The front end and the acquisition machine -/

/-- A completed cycle of LM or VM learns its polarity or counts against it (R63 to R65), and a polarity change at a lawful channel flips
it and takes the channel to SEEKING where it watches its input (R65, R100); with none due the event changes nothing (entry 5). That
entry to SEEKING drops the predecessor interval is entry 12, and that cycles come as events is entry 25. -/
def Obligations.CyclesAndPolarityChanges : Prop :=
  ∀ (c : Ch) (high cycle : Nat) (s : State),
    exec (.lmCycleComplete c high cycle) s = .next (s.setCh c (cycleTaken (s.ch c) .lm high cycle)) ∧
    exec (.vmCycleComplete c high cycle) s = .next (s.setCh c (cycleTaken (s.ch c) .vm high cycle)) ∧
    ∀ (input : SyncInput) (p : Polarity) (run target : Nat), detectorOf (s.ch c) input = (some p, run, target) →
      (target ≤ run → (s.ch c).acq ≠ .off → (s.ch c).lawful = true →
        exec (.polarityChange c input) s = .next (polarityChangeNext c input p s)) ∧
      (run < target → exec (.polarityChange c input) s = .next s)

/-- A line marker ends a line period and begins the next (R66 to R68, R84, R90, R98), and a line period that passes 65535 ticks is
abandoned (R66, R90). The model's own are the ticks operand (entry 4), the average of a completed block and an interval above 4095
that wait for their own rows (entry 5), the long period's row with none in progress, which changes nothing (entry 3), a block that
keeps waiting for a vertical marker outside LOCKED (entry 20), and one that awaits its first line marker at an out-of-range period
(entry 30). -/
def Obligations.LineMarkersFormPeriods : Prop :=
  ∀ (c : Ch) (ticks : Nat) (s : State),
    exec (.lineMarker c ticks) s = .next (lineMarkerNext c ticks s) ∧
      exec (.longLinePeriod c) s = .next (longLineNext c s)

/-- A block boundary hands on its average and is acted on by the channel's state, in LOCKED in the five steps of R92; with no completed
block the event changes nothing (entry 5). Two hand-ons at one boundary are entry 14, and the predecessor interval dropped on loss of
stability is entry 12. -/
def Obligations.BlockBoundaryFollowsTheState : Prop :=
  ∀ (c : Ch) (s : State),
    (∀ a, (s.ch c).front.blockDone = some a → (s.ch c).acq ≠ .locked →
      exec (.blockBoundary c) s = .next (boundaryNext c a s)) ∧
    (∀ a b, (s.ch c).front.blockDone = some a → (s.ch c).acq = .locked → (s.ch c).binding = .holding b →
      exec (.blockBoundary c) s = .next (lockedBoundaryNext c b a s)) ∧
    ((s.ch c).front.blockDone = none → exec (.blockBoundary c) s = .next s)

/-- The effective block size (R69): the channel's block size, or, under a MATCH binding whose body has VERIFY_BLOCK present, the smaller
of it and the largest block size that does not exceed VERIFY_BLOCK. It is one of the five sizes and never exceeds the channel's. -/
def Obligations.EffectiveBlockSize : Prop :=
  ∀ ch : Channel,
    (∀ b v, ch.binding = .holding b → b.origin = .found → b.body.verifyBlock = some v → 8 ≤ v →
      ∃ z, z ∈ [8, 16, 32, 64, 128] ∧ z ≤ v ∧ (∀ y ∈ [8, 16, 32, 64, 128], y ≤ v → y ≤ z) ∧
        ch.effectiveBlock = min ch.settings.blockSize z) ∧
    ((∀ b, ch.binding = .holding b → b.origin = .found → b.body.verifyBlock = none) →
      ch.effectiveBlock = ch.settings.blockSize) ∧
    (ch.settings.blockSize ∈ [8, 16, 32, 64, 128] →
      ch.effectiveBlock ∈ [8, 16, 32, 64, 128] ∧ ch.effectiveBlock ≤ ch.settings.blockSize)

/-- A vertical marker ends a vertical interval and begins the next (R71 to R74, R86, R91), an interval that passes 4095 line markers is
abandoned (R72, R91), and VM leaving its active level completes a sync width (R74). The model's own are the predecessor kept after an
out-of-range interval (entry 11), the wait for a vertical marker kept outside LOCKED (entry 20), the block discarded before the
interval is evaluated (entry 21), and the long interval's own row (entry 5). Blocks are aligned exactly in LOCKED under a holding
binding whose shorter expected vertical interval is not below the effective block size (R13, R71). -/
def Obligations.VerticalMarkersFormIntervals : Prop :=
  (∀ (c : Ch) (s : State),
    exec (.verticalMarker c) s = .next (verticalMarkerNext c s) ∧
      exec (.longVerticalInterval c) s = .next (longIntervalNext c s) ∧
      exec (.syncWidthComplete c) s = .next (s.setCh c (widthTaken (s.ch c)))) ∧
  ∀ ch : Channel, ch.aligned = true ↔ ch.acq = .locked ∧ ∃ b, ch.binding = .holding b ∧
    ch.effectiveBlock ≤ if b.body.scan = .progressive then b.body.frameLines else (b.body.frameLines - 1) / 2

/-- The expiries of a channel's running timers: line loss is input loss where the channel watches its input (R98, R99, R131), vertical loss
is one interval outside the window (R91), and the hold limit ends a hold (R136). The expiry of a stopped timer changes nothing
(entry 3), that of a running one acts whatever the timer stands at (entry 4), and input loss drops the predecessor interval
(entry 12). -/
def Obligations.LossTimersAndTheHoldLimit : Prop :=
  ∀ (c : Ch) (s : State), (s.ch c).lawful = true →
    exec (.lineLossExpiry c) s = .next (if (s.ch c).lineLoss = none then s else lineLossNext c s) ∧
    exec (.verticalLossExpiry c) s = .next (if (s.ch c).verticalLoss = none then s else verticalLossNext c s) ∧
    ((s.ch c).holdLimit = none → exec (.holdLimitExpiry c) s = .next s) ∧
    ∀ b, (s.ch c).holdLimit ≠ none → (s.ch c).binding = .holding b →
      exec (.holdLimitExpiry c) s = .next (holdLimitNext c b s)

/-! ## Substitute timing -/

/-- The events of a RUNNING generator: a substitute frame start adopts a pending amendment (R134), a substitute line begins the next
line, field or frame (R132, R133), and SUB_LM returns after its pulse (R133). The rows act whatever the tick count (entry 4), a
substitute frame start is a row of its own (entry 5), adoption at the frame start that ends a rest is entry 17, and with the generator
QUIET they change nothing (entry 3). -/
def Obligations.SubstituteGeneratorFollowsItsFrame : Prop :=
  ∀ (c : Ch) (s : State),
    (∀ g, (s.ch c).generator = some g →
      exec (.substituteLine c) s = .next (substituteLineNext c g s) ∧
      exec (.subLmPulseEnd c) s = .next (pulseEndNext c g s) ∧
      ∀ b, (s.ch c).binding = .holding b → exec (.substituteFrameStart c) s = .next (frameStartNext c g b s)) ∧
    ((s.ch c).generator = none →
      exec (.substituteLine c) s = .next s ∧ exec (.subLmPulseEnd c) s = .next s ∧
        exec (.substituteFrameStart c) s = .next s)

/-! ## Announcements and events -/

/-- A channel that hands on a state makes an announcement where it differs from the announced one (R107, R141), and the completion of a
frame frees the link for the next pending entry in rotation, with AN_FRM low for one AN_CLK period before the first bit of the next
frame, whether it begins at the completion or within that period (R143, R144, entry 19). The completion's row completes the frame
whatever bits were sent (entry 4), and on an IDLE link it changes nothing (entry 3). -/
def Obligations.AnnouncementsFollowTheRotation : Prop :=
  ∀ (c : Ch) (s : State),
    s.handOn c = handedOn s c (announcedOf (s.ch c)) ∧
      exec .announceFrameComplete s = .next (if s.link = none then s else sending { s with link := none, linkRest := 4 })

/-- READ EVENTS (R171), CLEAR EVENTS (R172) and SET EVENT MASKS (R173), which the host port alone accepts, and the level of nIRQ
(R170). The nine flags of a channel stand at bits 0 to 8 and the three device flags at bits 0 to 2 (R164); the setting of a flag sets
exactly its bit, a set flag stays set, and nothing else changes (R169). -/
def Obligations.EventCommandsAndTheInterruptLine : Prop :=
  (∀ f : ChannelFlag, ∃ k < 9, flagTable[k]? = some f) ∧ (∀ f : DeviceFlag, ∃ k < 3, deviceFlagTable[k]? = some f) ∧
  (∀ (s : State) (c : Ch) (k : Nat) (f : ChannelFlag), flagTable[k]? = some f →
    s.hasFlag c f = (s.events.flags[c.val]).getLsbD k ∧
      s.setFlag c f = { s with events := { s.events with
        flags := Vector.ofFn fun d : Fin 6 =>
          if d = c then s.events.flags[d.val] ||| BitVec.twoPow 9 k else s.events.flags[d.val] } }) ∧
  (∀ (s : State) (k : Nat) (f : DeviceFlag), deviceFlagTable[k]? = some f →
    s.hasDeviceFlag f = s.events.device.getLsbD k ∧
      s.setDeviceFlag f = { s with events := { s.events with device := s.events.device ||| BitVec.twoPow 3 k } }) ∧
  (∀ (s : State) (c : Ch), s.flagsOf c = s.events.flags[c.val] ∧ s.enablesOf c = s.events.enables[c.val]) ∧
  ∀ (p : Port) (tag : Byte) (s : State),
    (executing s p tag .readEvents → exec (.readEvents p tag) s = .next (answered s p tag .done (eventBytes s.events))) ∧
    (∀ maps device, executing s p tag (.clearEvents maps device) →
      exec (.clearEvents p tag maps device) s = .next (
        if namesFlags maps device then
          answered { s with events := { s.events with
            flags := Vector.ofFn fun c : Fin 6 => s.events.flags[c.val] &&& ~~~ (maps[c.val].setWidth 9)
            device := s.events.device &&& ~~~ device.setWidth 3 } } p tag .done []
        else answered s p tag .range [])) ∧
    (∀ maps device pin, executing s p tag (.setEventMasks maps device pin) →
      exec (.setEventMasks p tag maps device pin) s = .next (
        if namesFlags maps device && (pin == 0 || pin == 1) then
          answered { s with events := { s.events with
            enables := Vector.ofFn fun c : Fin 6 => maps[c.val].setWidth 9
            deviceEnables := device.setWidth 3
            pinDisable := pin == 1 } } p tag .done []
        else answered s p tag .range [])) ∧
    (s.irqAsserted = true ↔ s.events.pinDisable = false ∧
      ((∃ c : Ch, ∃ k < 9, (s.flagsOf c).getLsbD k = true ∧ (s.enablesOf c).getLsbD k = true) ∨
        ∃ k < 3, s.events.device.getLsbD k = true ∧ s.events.deviceEnables.getLsbD k = true)) ∧
    ∀ maps device pin, (Cmd.clearEvents maps device).allowedOn .monitor = false ∧
      (Cmd.setEventMasks maps device pin).allowedOn .monitor = false ∧ Cmd.readEvents.allowedOn .monitor = false
end

