-- ==== Sys2Proof/Laws/State.lean ====
section
/-! SUPPORT. What each update of the state by name leaves as it was, field by field, and what it reads back. -/

namespace Sys2Proof.Machine

variable (s : State)

/-! ### Vectors -/

/-- What a mapped vector holds at a place. -/
@[simp] theorem mapEach_get {α β : Type} {n : Nat} (v : Vector α n) (f : α → β) (i : Nat) (h : i < n) :
    (mapEach v f)[i] = f v[i] := by simp [mapEach]

/-- What a vector made of two holds at a place. -/
@[simp] theorem zipEach_get {α β γ : Type} {n : Nat} (v : Vector α n) (w : Vector β n) (f : α → β → γ) (i : Nat) (h : i < n) :
    (zipEach v w f)[i] = f v[i] w[i] := by simp [zipEach]

/-! ### setCh -/

@[simp] theorem State.setCh_slots (c : Ch) (v : Channel) : (s.setCh c v).slots = s.slots := rfl
@[simp] theorem State.setCh_index (c : Ch) (v : Channel) : (s.setCh c v).index = s.index := rfl
@[simp] theorem State.setCh_edits (c : Ch) (v : Channel) : (s.setCh c v).edits = s.edits := rfl
@[simp] theorem State.setCh_retiring (c : Ch) (v : Channel) : (s.setCh c v).retiring = s.retiring := rfl
@[simp] theorem State.setCh_granted (c : Ch) (v : Channel) : (s.setCh c v).granted = s.granted := rfl
@[simp] theorem State.setCh_announcer (c : Ch) (v : Channel) : (s.setCh c v).announcer = s.announcer := rfl
@[simp] theorem State.setCh_link (c : Ch) (v : Channel) : (s.setCh c v).link = s.link := rfl
@[simp] theorem State.setCh_linkRest (c : Ch) (v : Channel) : (s.setCh c v).linkRest = s.linkRest := rfl
@[simp] theorem State.setCh_lastSent (c : Ch) (v : Channel) : (s.setCh c v).lastSent = s.lastSent := rfl
@[simp] theorem State.setCh_host (c : Ch) (v : Channel) : (s.setCh c v).host = s.host := rfl
@[simp] theorem State.setCh_monitor (c : Ch) (v : Channel) : (s.setCh c v).monitor = s.monitor := rfl
@[simp] theorem State.setCh_resetWaiting (c : Ch) (v : Channel) : (s.setCh c v).resetWaiting = s.resetWaiting := rfl
@[simp] theorem State.setCh_events (c : Ch) (v : Channel) : (s.setCh c v).events = s.events := rfl
@[simp] theorem State.setCh_time (c : Ch) (v : Channel) : (s.setCh c v).time = s.time := rfl
@[simp] theorem State.setCh_resetLow (c : Ch) (v : Channel) : (s.setCh c v).resetLow = s.resetLow := rfl
@[simp] theorem State.setCh_maLevel (c : Ch) (v : Channel) : (s.setCh c v).maLevel = s.maLevel := rfl
@[simp] theorem State.setCh_monitorAddress (c : Ch) (v : Channel) : (s.setCh c v).monitorAddress = s.monitorAddress := rfl
@[simp] theorem State.setCh_choices (c : Ch) (v : Channel) : (s.setCh c v).choices = s.choices := rfl
@[simp] theorem State.setCh_pending (c : Ch) (v : Channel) : (s.setCh c v).pending = s.pending := rfl

/-! ### setAnn -/

@[simp] theorem State.setAnn_slots (c : Ch) (v : AnnounceChannel) : (s.setAnn c v).slots = s.slots := rfl
@[simp] theorem State.setAnn_index (c : Ch) (v : AnnounceChannel) : (s.setAnn c v).index = s.index := rfl
@[simp] theorem State.setAnn_edits (c : Ch) (v : AnnounceChannel) : (s.setAnn c v).edits = s.edits := rfl
@[simp] theorem State.setAnn_retiring (c : Ch) (v : AnnounceChannel) : (s.setAnn c v).retiring = s.retiring := rfl
@[simp] theorem State.setAnn_granted (c : Ch) (v : AnnounceChannel) : (s.setAnn c v).granted = s.granted := rfl
@[simp] theorem State.setAnn_chans (c : Ch) (v : AnnounceChannel) : (s.setAnn c v).chans = s.chans := rfl
@[simp] theorem State.setAnn_link (c : Ch) (v : AnnounceChannel) : (s.setAnn c v).link = s.link := rfl
@[simp] theorem State.setAnn_linkRest (c : Ch) (v : AnnounceChannel) : (s.setAnn c v).linkRest = s.linkRest := rfl
@[simp] theorem State.setAnn_lastSent (c : Ch) (v : AnnounceChannel) : (s.setAnn c v).lastSent = s.lastSent := rfl
@[simp] theorem State.setAnn_host (c : Ch) (v : AnnounceChannel) : (s.setAnn c v).host = s.host := rfl
@[simp] theorem State.setAnn_monitor (c : Ch) (v : AnnounceChannel) : (s.setAnn c v).monitor = s.monitor := rfl
@[simp] theorem State.setAnn_resetWaiting (c : Ch) (v : AnnounceChannel) : (s.setAnn c v).resetWaiting = s.resetWaiting := rfl
@[simp] theorem State.setAnn_events (c : Ch) (v : AnnounceChannel) : (s.setAnn c v).events = s.events := rfl
@[simp] theorem State.setAnn_time (c : Ch) (v : AnnounceChannel) : (s.setAnn c v).time = s.time := rfl
@[simp] theorem State.setAnn_resetLow (c : Ch) (v : AnnounceChannel) : (s.setAnn c v).resetLow = s.resetLow := rfl
@[simp] theorem State.setAnn_maLevel (c : Ch) (v : AnnounceChannel) : (s.setAnn c v).maLevel = s.maLevel := rfl
@[simp] theorem State.setAnn_monitorAddress (c : Ch) (v : AnnounceChannel) : (s.setAnn c v).monitorAddress = s.monitorAddress := rfl
@[simp] theorem State.setAnn_choices (c : Ch) (v : AnnounceChannel) : (s.setAnn c v).choices = s.choices := rfl
@[simp] theorem State.setAnn_pending (c : Ch) (v : AnnounceChannel) : (s.setAnn c v).pending = s.pending := rfl

/-! ### setSlot -/

@[simp] theorem State.setSlot_index (n : Nat) (v : Slot) : (s.setSlot n v).index = s.index := rfl
@[simp] theorem State.setSlot_edits (n : Nat) (v : Slot) : (s.setSlot n v).edits = s.edits := rfl
@[simp] theorem State.setSlot_retiring (n : Nat) (v : Slot) : (s.setSlot n v).retiring = s.retiring := rfl
@[simp] theorem State.setSlot_granted (n : Nat) (v : Slot) : (s.setSlot n v).granted = s.granted := rfl
@[simp] theorem State.setSlot_chans (n : Nat) (v : Slot) : (s.setSlot n v).chans = s.chans := rfl
@[simp] theorem State.setSlot_announcer (n : Nat) (v : Slot) : (s.setSlot n v).announcer = s.announcer := rfl
@[simp] theorem State.setSlot_link (n : Nat) (v : Slot) : (s.setSlot n v).link = s.link := rfl
@[simp] theorem State.setSlot_linkRest (n : Nat) (v : Slot) : (s.setSlot n v).linkRest = s.linkRest := rfl
@[simp] theorem State.setSlot_lastSent (n : Nat) (v : Slot) : (s.setSlot n v).lastSent = s.lastSent := rfl
@[simp] theorem State.setSlot_host (n : Nat) (v : Slot) : (s.setSlot n v).host = s.host := rfl
@[simp] theorem State.setSlot_monitor (n : Nat) (v : Slot) : (s.setSlot n v).monitor = s.monitor := rfl
@[simp] theorem State.setSlot_resetWaiting (n : Nat) (v : Slot) : (s.setSlot n v).resetWaiting = s.resetWaiting := rfl
@[simp] theorem State.setSlot_events (n : Nat) (v : Slot) : (s.setSlot n v).events = s.events := rfl
@[simp] theorem State.setSlot_time (n : Nat) (v : Slot) : (s.setSlot n v).time = s.time := rfl
@[simp] theorem State.setSlot_resetLow (n : Nat) (v : Slot) : (s.setSlot n v).resetLow = s.resetLow := rfl
@[simp] theorem State.setSlot_maLevel (n : Nat) (v : Slot) : (s.setSlot n v).maLevel = s.maLevel := rfl
@[simp] theorem State.setSlot_monitorAddress (n : Nat) (v : Slot) : (s.setSlot n v).monitorAddress = s.monitorAddress := rfl
@[simp] theorem State.setSlot_choices (n : Nat) (v : Slot) : (s.setSlot n v).choices = s.choices := rfl
@[simp] theorem State.setSlot_pending (n : Nat) (v : Slot) : (s.setSlot n v).pending = s.pending := rfl

/-! ### setEdit -/

@[simp] theorem State.setEdit_slots (id : Fin 4) (v : Option EditContext) : (s.setEdit id v).slots = s.slots := rfl
@[simp] theorem State.setEdit_index (id : Fin 4) (v : Option EditContext) : (s.setEdit id v).index = s.index := rfl
@[simp] theorem State.setEdit_retiring (id : Fin 4) (v : Option EditContext) : (s.setEdit id v).retiring = s.retiring := rfl
@[simp] theorem State.setEdit_granted (id : Fin 4) (v : Option EditContext) : (s.setEdit id v).granted = s.granted := rfl
@[simp] theorem State.setEdit_chans (id : Fin 4) (v : Option EditContext) : (s.setEdit id v).chans = s.chans := rfl
@[simp] theorem State.setEdit_announcer (id : Fin 4) (v : Option EditContext) : (s.setEdit id v).announcer = s.announcer := rfl
@[simp] theorem State.setEdit_link (id : Fin 4) (v : Option EditContext) : (s.setEdit id v).link = s.link := rfl
@[simp] theorem State.setEdit_linkRest (id : Fin 4) (v : Option EditContext) : (s.setEdit id v).linkRest = s.linkRest := rfl
@[simp] theorem State.setEdit_lastSent (id : Fin 4) (v : Option EditContext) : (s.setEdit id v).lastSent = s.lastSent := rfl
@[simp] theorem State.setEdit_host (id : Fin 4) (v : Option EditContext) : (s.setEdit id v).host = s.host := rfl
@[simp] theorem State.setEdit_monitor (id : Fin 4) (v : Option EditContext) : (s.setEdit id v).monitor = s.monitor := rfl
@[simp] theorem State.setEdit_resetWaiting (id : Fin 4) (v : Option EditContext) : (s.setEdit id v).resetWaiting = s.resetWaiting := rfl
@[simp] theorem State.setEdit_events (id : Fin 4) (v : Option EditContext) : (s.setEdit id v).events = s.events := rfl
@[simp] theorem State.setEdit_time (id : Fin 4) (v : Option EditContext) : (s.setEdit id v).time = s.time := rfl
@[simp] theorem State.setEdit_resetLow (id : Fin 4) (v : Option EditContext) : (s.setEdit id v).resetLow = s.resetLow := rfl
@[simp] theorem State.setEdit_maLevel (id : Fin 4) (v : Option EditContext) : (s.setEdit id v).maLevel = s.maLevel := rfl
@[simp] theorem State.setEdit_monitorAddress (id : Fin 4) (v : Option EditContext) : (s.setEdit id v).monitorAddress = s.monitorAddress := rfl
@[simp] theorem State.setEdit_choices (id : Fin 4) (v : Option EditContext) : (s.setEdit id v).choices = s.choices := rfl
@[simp] theorem State.setEdit_pending (id : Fin 4) (v : Option EditContext) : (s.setEdit id v).pending = s.pending := rfl

/-! ### setPort -/

@[simp] theorem State.setPort_slots (p : Port) (v : PortState) : (s.setPort p v).slots = s.slots := by cases p <;> rfl
@[simp] theorem State.setPort_index (p : Port) (v : PortState) : (s.setPort p v).index = s.index := by cases p <;> rfl
@[simp] theorem State.setPort_edits (p : Port) (v : PortState) : (s.setPort p v).edits = s.edits := by cases p <;> rfl
@[simp] theorem State.setPort_retiring (p : Port) (v : PortState) : (s.setPort p v).retiring = s.retiring := by cases p <;> rfl
@[simp] theorem State.setPort_granted (p : Port) (v : PortState) : (s.setPort p v).granted = s.granted := by cases p <;> rfl
@[simp] theorem State.setPort_chans (p : Port) (v : PortState) : (s.setPort p v).chans = s.chans := by cases p <;> rfl
@[simp] theorem State.setPort_announcer (p : Port) (v : PortState) : (s.setPort p v).announcer = s.announcer := by cases p <;> rfl
@[simp] theorem State.setPort_link (p : Port) (v : PortState) : (s.setPort p v).link = s.link := by cases p <;> rfl
@[simp] theorem State.setPort_linkRest (p : Port) (v : PortState) : (s.setPort p v).linkRest = s.linkRest := by cases p <;> rfl
@[simp] theorem State.setPort_lastSent (p : Port) (v : PortState) : (s.setPort p v).lastSent = s.lastSent := by cases p <;> rfl
@[simp] theorem State.setPort_resetWaiting (p : Port) (v : PortState) : (s.setPort p v).resetWaiting = s.resetWaiting := by cases p <;> rfl
@[simp] theorem State.setPort_events (p : Port) (v : PortState) : (s.setPort p v).events = s.events := by cases p <;> rfl
@[simp] theorem State.setPort_time (p : Port) (v : PortState) : (s.setPort p v).time = s.time := by cases p <;> rfl
@[simp] theorem State.setPort_resetLow (p : Port) (v : PortState) : (s.setPort p v).resetLow = s.resetLow := by cases p <;> rfl
@[simp] theorem State.setPort_maLevel (p : Port) (v : PortState) : (s.setPort p v).maLevel = s.maLevel := by cases p <;> rfl
@[simp] theorem State.setPort_monitorAddress (p : Port) (v : PortState) : (s.setPort p v).monitorAddress = s.monitorAddress := by cases p <;> rfl
@[simp] theorem State.setPort_choices (p : Port) (v : PortState) : (s.setPort p v).choices = s.choices := by cases p <;> rfl
@[simp] theorem State.setPort_pending (p : Port) (v : PortState) : (s.setPort p v).pending = s.pending := by cases p <;> rfl

/-! ### setFlag -/

@[simp] theorem State.setFlag_slots (c : Ch) (f : ChannelFlag) : (s.setFlag c f).slots = s.slots := rfl
@[simp] theorem State.setFlag_index (c : Ch) (f : ChannelFlag) : (s.setFlag c f).index = s.index := rfl
@[simp] theorem State.setFlag_edits (c : Ch) (f : ChannelFlag) : (s.setFlag c f).edits = s.edits := rfl
@[simp] theorem State.setFlag_retiring (c : Ch) (f : ChannelFlag) : (s.setFlag c f).retiring = s.retiring := rfl
@[simp] theorem State.setFlag_granted (c : Ch) (f : ChannelFlag) : (s.setFlag c f).granted = s.granted := rfl
@[simp] theorem State.setFlag_chans (c : Ch) (f : ChannelFlag) : (s.setFlag c f).chans = s.chans := rfl
@[simp] theorem State.setFlag_announcer (c : Ch) (f : ChannelFlag) : (s.setFlag c f).announcer = s.announcer := rfl
@[simp] theorem State.setFlag_link (c : Ch) (f : ChannelFlag) : (s.setFlag c f).link = s.link := rfl
@[simp] theorem State.setFlag_linkRest (c : Ch) (f : ChannelFlag) : (s.setFlag c f).linkRest = s.linkRest := rfl
@[simp] theorem State.setFlag_lastSent (c : Ch) (f : ChannelFlag) : (s.setFlag c f).lastSent = s.lastSent := rfl
@[simp] theorem State.setFlag_host (c : Ch) (f : ChannelFlag) : (s.setFlag c f).host = s.host := rfl
@[simp] theorem State.setFlag_monitor (c : Ch) (f : ChannelFlag) : (s.setFlag c f).monitor = s.monitor := rfl
@[simp] theorem State.setFlag_resetWaiting (c : Ch) (f : ChannelFlag) : (s.setFlag c f).resetWaiting = s.resetWaiting := rfl
@[simp] theorem State.setFlag_time (c : Ch) (f : ChannelFlag) : (s.setFlag c f).time = s.time := rfl
@[simp] theorem State.setFlag_resetLow (c : Ch) (f : ChannelFlag) : (s.setFlag c f).resetLow = s.resetLow := rfl
@[simp] theorem State.setFlag_maLevel (c : Ch) (f : ChannelFlag) : (s.setFlag c f).maLevel = s.maLevel := rfl
@[simp] theorem State.setFlag_monitorAddress (c : Ch) (f : ChannelFlag) : (s.setFlag c f).monitorAddress = s.monitorAddress := rfl
@[simp] theorem State.setFlag_choices (c : Ch) (f : ChannelFlag) : (s.setFlag c f).choices = s.choices := rfl
@[simp] theorem State.setFlag_pending (c : Ch) (f : ChannelFlag) : (s.setFlag c f).pending = s.pending := rfl

/-! ### setDeviceFlag -/

@[simp] theorem State.setDeviceFlag_slots (f : DeviceFlag) : (s.setDeviceFlag f).slots = s.slots := rfl
@[simp] theorem State.setDeviceFlag_index (f : DeviceFlag) : (s.setDeviceFlag f).index = s.index := rfl
@[simp] theorem State.setDeviceFlag_edits (f : DeviceFlag) : (s.setDeviceFlag f).edits = s.edits := rfl
@[simp] theorem State.setDeviceFlag_retiring (f : DeviceFlag) : (s.setDeviceFlag f).retiring = s.retiring := rfl
@[simp] theorem State.setDeviceFlag_granted (f : DeviceFlag) : (s.setDeviceFlag f).granted = s.granted := rfl
@[simp] theorem State.setDeviceFlag_chans (f : DeviceFlag) : (s.setDeviceFlag f).chans = s.chans := rfl
@[simp] theorem State.setDeviceFlag_announcer (f : DeviceFlag) : (s.setDeviceFlag f).announcer = s.announcer := rfl
@[simp] theorem State.setDeviceFlag_link (f : DeviceFlag) : (s.setDeviceFlag f).link = s.link := rfl
@[simp] theorem State.setDeviceFlag_linkRest (f : DeviceFlag) : (s.setDeviceFlag f).linkRest = s.linkRest := rfl
@[simp] theorem State.setDeviceFlag_lastSent (f : DeviceFlag) : (s.setDeviceFlag f).lastSent = s.lastSent := rfl
@[simp] theorem State.setDeviceFlag_host (f : DeviceFlag) : (s.setDeviceFlag f).host = s.host := rfl
@[simp] theorem State.setDeviceFlag_monitor (f : DeviceFlag) : (s.setDeviceFlag f).monitor = s.monitor := rfl
@[simp] theorem State.setDeviceFlag_resetWaiting (f : DeviceFlag) : (s.setDeviceFlag f).resetWaiting = s.resetWaiting := rfl
@[simp] theorem State.setDeviceFlag_time (f : DeviceFlag) : (s.setDeviceFlag f).time = s.time := rfl
@[simp] theorem State.setDeviceFlag_resetLow (f : DeviceFlag) : (s.setDeviceFlag f).resetLow = s.resetLow := rfl
@[simp] theorem State.setDeviceFlag_maLevel (f : DeviceFlag) : (s.setDeviceFlag f).maLevel = s.maLevel := rfl
@[simp] theorem State.setDeviceFlag_monitorAddress (f : DeviceFlag) : (s.setDeviceFlag f).monitorAddress = s.monitorAddress := rfl
@[simp] theorem State.setDeviceFlag_choices (f : DeviceFlag) : (s.setDeviceFlag f).choices = s.choices := rfl
@[simp] theorem State.setDeviceFlag_pending (f : DeviceFlag) : (s.setDeviceFlag f).pending = s.pending := rfl

/-! ### setFlagIf -/

@[simp] theorem State.setFlagIf_slots (b : Bool) (c : Ch) (f : ChannelFlag) : (s.setFlagIf b c f).slots = s.slots := by cases b <;> rfl
@[simp] theorem State.setFlagIf_index (b : Bool) (c : Ch) (f : ChannelFlag) : (s.setFlagIf b c f).index = s.index := by cases b <;> rfl
@[simp] theorem State.setFlagIf_edits (b : Bool) (c : Ch) (f : ChannelFlag) : (s.setFlagIf b c f).edits = s.edits := by cases b <;> rfl
@[simp] theorem State.setFlagIf_retiring (b : Bool) (c : Ch) (f : ChannelFlag) : (s.setFlagIf b c f).retiring = s.retiring := by cases b <;> rfl
@[simp] theorem State.setFlagIf_granted (b : Bool) (c : Ch) (f : ChannelFlag) : (s.setFlagIf b c f).granted = s.granted := by cases b <;> rfl
@[simp] theorem State.setFlagIf_chans (b : Bool) (c : Ch) (f : ChannelFlag) : (s.setFlagIf b c f).chans = s.chans := by cases b <;> rfl
@[simp] theorem State.setFlagIf_announcer (b : Bool) (c : Ch) (f : ChannelFlag) : (s.setFlagIf b c f).announcer = s.announcer := by cases b <;> rfl
@[simp] theorem State.setFlagIf_link (b : Bool) (c : Ch) (f : ChannelFlag) : (s.setFlagIf b c f).link = s.link := by cases b <;> rfl
@[simp] theorem State.setFlagIf_linkRest (b : Bool) (c : Ch) (f : ChannelFlag) : (s.setFlagIf b c f).linkRest = s.linkRest := by cases b <;> rfl
@[simp] theorem State.setFlagIf_lastSent (b : Bool) (c : Ch) (f : ChannelFlag) : (s.setFlagIf b c f).lastSent = s.lastSent := by cases b <;> rfl
@[simp] theorem State.setFlagIf_host (b : Bool) (c : Ch) (f : ChannelFlag) : (s.setFlagIf b c f).host = s.host := by cases b <;> rfl
@[simp] theorem State.setFlagIf_monitor (b : Bool) (c : Ch) (f : ChannelFlag) : (s.setFlagIf b c f).monitor = s.monitor := by cases b <;> rfl
@[simp] theorem State.setFlagIf_resetWaiting (b : Bool) (c : Ch) (f : ChannelFlag) : (s.setFlagIf b c f).resetWaiting = s.resetWaiting := by cases b <;> rfl
@[simp] theorem State.setFlagIf_time (b : Bool) (c : Ch) (f : ChannelFlag) : (s.setFlagIf b c f).time = s.time := by cases b <;> rfl
@[simp] theorem State.setFlagIf_resetLow (b : Bool) (c : Ch) (f : ChannelFlag) : (s.setFlagIf b c f).resetLow = s.resetLow := by cases b <;> rfl
@[simp] theorem State.setFlagIf_maLevel (b : Bool) (c : Ch) (f : ChannelFlag) : (s.setFlagIf b c f).maLevel = s.maLevel := by cases b <;> rfl
@[simp] theorem State.setFlagIf_monitorAddress (b : Bool) (c : Ch) (f : ChannelFlag) : (s.setFlagIf b c f).monitorAddress = s.monitorAddress := by cases b <;> rfl
@[simp] theorem State.setFlagIf_choices (b : Bool) (c : Ch) (f : ChannelFlag) : (s.setFlagIf b c f).choices = s.choices := by cases b <;> rfl
@[simp] theorem State.setFlagIf_pending (b : Bool) (c : Ch) (f : ChannelFlag) : (s.setFlagIf b c f).pending = s.pending := by cases b <;> rfl

/-! ### Reading back -/

@[simp] theorem State.ch_setCh_same (c : Ch) (v : Channel) : (s.setCh c v).ch c = v := by
  simp [State.ch, State.setCh]

theorem State.ch_setCh_ne (c d : Ch) (v : Channel) (h : d ≠ c) : (s.setCh c v).ch d = s.ch d := by
  have : c.val ≠ d.val := fun e => h (Fin.ext e.symm)
  simp [State.ch, State.setCh, this]

@[simp] theorem State.ann_setAnn_same (c : Ch) (v : AnnounceChannel) : (s.setAnn c v).ann c = v := by
  simp [State.ann, State.setAnn]

theorem State.ann_setAnn_ne (c d : Ch) (v : AnnounceChannel) (h : d ≠ c) : (s.setAnn c v).ann d = s.ann d := by
  have : c.val ≠ d.val := fun e => h (Fin.ext e.symm)
  simp [State.ann, State.setAnn, this]

@[simp] theorem State.edit_setEdit_same (id : Fin 4) (v : Option EditContext) : (s.setEdit id v).edit id = v := by
  simp [State.edit, State.setEdit]

theorem State.edit_setEdit_ne (id k : Fin 4) (v : Option EditContext) (h : k ≠ id) : (s.setEdit id v).edit k = s.edit k := by
  have : id.val ≠ k.val := fun e => h (Fin.ext e.symm)
  simp [State.edit, State.setEdit, this]

@[simp] theorem State.port_setPort_same (p : Port) (v : PortState) : (s.setPort p v).port p = v := by
  cases p <;> rfl

theorem State.port_setPort_ne (p q : Port) (v : PortState) (h : q ≠ p) : (s.setPort p v).port q = s.port q := by
  cases p <;> cases q <;> first | rfl | exact absurd rfl h

theorem State.slot_setSlot_same (n : Nat) (v : Slot) (h : n < 96) : (s.setSlot n v).slot n = v := by
  simp [State.slot, State.setSlot, h]

theorem State.slot_setSlot_ne (n m : Nat) (v : Slot) (h : m ≠ n) : (s.setSlot n v).slot m = s.slot m := by
  simp [State.slot, State.setSlot, Vector.getElem?_setIfInBounds_ne (Ne.symm h)]

theorem State.setSlot_above (n : Nat) (v : Slot) (h : 96 ≤ n) : s.setSlot n v = s := by
  simp [State.setSlot, Vector.setIfInBounds_eq_of_size_le, h]

theorem State.slot_above (n : Nat) (h : 96 ≤ n) : s.slot n = Slot.empty := by
  simp [State.slot, h]

/-! ### Which part an update of another part leaves -/

@[simp] theorem State.ann_setCh (c : Ch) (v : Channel) (d : Ch) : (s.setCh c v).ann d = s.ann d := rfl
@[simp] theorem State.slot_setCh (c : Ch) (v : Channel) (m : Nat) : (s.setCh c v).slot m = s.slot m := rfl
@[simp] theorem State.edit_setCh (c : Ch) (v : Channel) (k : Fin 4) : (s.setCh c v).edit k = s.edit k := rfl
@[simp] theorem State.port_setCh (c : Ch) (v : Channel) (q : Port) : (s.setCh c v).port q = s.port q := by cases q <;> rfl
@[simp] theorem State.flagsOf_setCh (c : Ch) (v : Channel) (d : Ch) : (s.setCh c v).flagsOf d = s.flagsOf d := rfl
@[simp] theorem State.ch_setAnn (c : Ch) (v : AnnounceChannel) (d : Ch) : (s.setAnn c v).ch d = s.ch d := rfl
@[simp] theorem State.slot_setAnn (c : Ch) (v : AnnounceChannel) (m : Nat) : (s.setAnn c v).slot m = s.slot m := rfl
@[simp] theorem State.edit_setAnn (c : Ch) (v : AnnounceChannel) (k : Fin 4) : (s.setAnn c v).edit k = s.edit k := rfl
@[simp] theorem State.port_setAnn (c : Ch) (v : AnnounceChannel) (q : Port) : (s.setAnn c v).port q = s.port q := by cases q <;> rfl
@[simp] theorem State.flagsOf_setAnn (c : Ch) (v : AnnounceChannel) (d : Ch) : (s.setAnn c v).flagsOf d = s.flagsOf d := rfl
@[simp] theorem State.ch_setSlot (n : Nat) (v : Slot) (d : Ch) : (s.setSlot n v).ch d = s.ch d := rfl
@[simp] theorem State.ann_setSlot (n : Nat) (v : Slot) (d : Ch) : (s.setSlot n v).ann d = s.ann d := rfl
@[simp] theorem State.edit_setSlot (n : Nat) (v : Slot) (k : Fin 4) : (s.setSlot n v).edit k = s.edit k := rfl
@[simp] theorem State.port_setSlot (n : Nat) (v : Slot) (q : Port) : (s.setSlot n v).port q = s.port q := by cases q <;> rfl
@[simp] theorem State.flagsOf_setSlot (n : Nat) (v : Slot) (d : Ch) : (s.setSlot n v).flagsOf d = s.flagsOf d := rfl
@[simp] theorem State.ch_setEdit (id : Fin 4) (v : Option EditContext) (d : Ch) : (s.setEdit id v).ch d = s.ch d := rfl
@[simp] theorem State.ann_setEdit (id : Fin 4) (v : Option EditContext) (d : Ch) : (s.setEdit id v).ann d = s.ann d := rfl
@[simp] theorem State.slot_setEdit (id : Fin 4) (v : Option EditContext) (m : Nat) : (s.setEdit id v).slot m = s.slot m := rfl
@[simp] theorem State.port_setEdit (id : Fin 4) (v : Option EditContext) (q : Port) : (s.setEdit id v).port q = s.port q := by cases q <;> rfl
@[simp] theorem State.flagsOf_setEdit (id : Fin 4) (v : Option EditContext) (d : Ch) : (s.setEdit id v).flagsOf d = s.flagsOf d := rfl
@[simp] theorem State.ch_setPort (p : Port) (v : PortState) (d : Ch) : (s.setPort p v).ch d = s.ch d := by cases p <;> rfl
@[simp] theorem State.ann_setPort (p : Port) (v : PortState) (d : Ch) : (s.setPort p v).ann d = s.ann d := by cases p <;> rfl
@[simp] theorem State.slot_setPort (p : Port) (v : PortState) (m : Nat) : (s.setPort p v).slot m = s.slot m := by cases p <;> rfl
@[simp] theorem State.edit_setPort (p : Port) (v : PortState) (k : Fin 4) : (s.setPort p v).edit k = s.edit k := by cases p <;> rfl
@[simp] theorem State.flagsOf_setPort (p : Port) (v : PortState) (d : Ch) : (s.setPort p v).flagsOf d = s.flagsOf d := by cases p <;> rfl
@[simp] theorem State.ch_setFlag (c : Ch) (f : ChannelFlag) (d : Ch) : (s.setFlag c f).ch d = s.ch d := rfl
@[simp] theorem State.ann_setFlag (c : Ch) (f : ChannelFlag) (d : Ch) : (s.setFlag c f).ann d = s.ann d := rfl
@[simp] theorem State.slot_setFlag (c : Ch) (f : ChannelFlag) (m : Nat) : (s.setFlag c f).slot m = s.slot m := rfl
@[simp] theorem State.edit_setFlag (c : Ch) (f : ChannelFlag) (k : Fin 4) : (s.setFlag c f).edit k = s.edit k := rfl
@[simp] theorem State.port_setFlag (c : Ch) (f : ChannelFlag) (q : Port) : (s.setFlag c f).port q = s.port q := by cases q <;> rfl
@[simp] theorem State.ch_setDeviceFlag (f : DeviceFlag) (d : Ch) : (s.setDeviceFlag f).ch d = s.ch d := rfl
@[simp] theorem State.ann_setDeviceFlag (f : DeviceFlag) (d : Ch) : (s.setDeviceFlag f).ann d = s.ann d := rfl
@[simp] theorem State.slot_setDeviceFlag (f : DeviceFlag) (m : Nat) : (s.setDeviceFlag f).slot m = s.slot m := rfl
@[simp] theorem State.edit_setDeviceFlag (f : DeviceFlag) (k : Fin 4) : (s.setDeviceFlag f).edit k = s.edit k := rfl
@[simp] theorem State.port_setDeviceFlag (f : DeviceFlag) (q : Port) : (s.setDeviceFlag f).port q = s.port q := by cases q <;> rfl
@[simp] theorem State.flagsOf_setDeviceFlag (f : DeviceFlag) (d : Ch) : (s.setDeviceFlag f).flagsOf d = s.flagsOf d := rfl

/-! ### Flags -/

/-- Setting a flag sets it, keeps every other flag and the enables (R169). -/
theorem State.hasFlag_setFlag (c d : Ch) (f g : ChannelFlag) :
    (s.setFlag c f).hasFlag d g = (s.hasFlag d g || (d == c && g == f)) := by
  have hb : ∀ x y : ChannelFlag, (y.bit = x.bit) ↔ (y = x) := by
    intro x y; cases x <;> cases y <;> simp [ChannelFlag.bit]
  have hl : ∀ x : ChannelFlag, x.bit < 9 := by intro x; cases x <;> decide
  by_cases hd : d = c
  · subst hd
    simp only [State.hasFlag, State.flagsOf, State.setFlag, Vector.getElem_set_self, BitVec.getLsbD_or,
      BitVec.getLsbD_twoPow, beq_self_eq_true, Bool.true_and]
    by_cases hf : g = f
    · subst hf; simp [hl]
    · have : ¬ f.bit = g.bit := fun e => hf ((hb f g).1 e.symm)
      simp [hf, this]
  · have : c.val ≠ d.val := fun e => hd (Fin.ext e.symm)
    simp [State.hasFlag, State.flagsOf, State.setFlag, this, hd]

end Sys2Proof.Machine
end

