-- ==== Sys2Proof/Laws/Ops.lean ====
section
/-! SUPPORT. What each shared operation can do, said once. -/

namespace Sys2Proof.Machine

variable (s : State)

/-! ## Announcements (R141, R143) -/

@[simp] theorem State.beginFrame_slots : s.beginFrame.slots = s.slots := by
  unfold State.beginFrame; repeat (first | rfl | split)
@[simp] theorem State.beginFrame_index : s.beginFrame.index = s.index := by
  unfold State.beginFrame; repeat (first | rfl | split)
@[simp] theorem State.beginFrame_edits : s.beginFrame.edits = s.edits := by
  unfold State.beginFrame; repeat (first | rfl | split)
@[simp] theorem State.beginFrame_retiring : s.beginFrame.retiring = s.retiring := by
  unfold State.beginFrame; repeat (first | rfl | split)
@[simp] theorem State.beginFrame_granted : s.beginFrame.granted = s.granted := by
  unfold State.beginFrame; repeat (first | rfl | split)
@[simp] theorem State.beginFrame_chans : s.beginFrame.chans = s.chans := by
  unfold State.beginFrame; repeat (first | rfl | split)
@[simp] theorem State.beginFrame_host : s.beginFrame.host = s.host := by
  unfold State.beginFrame; repeat (first | rfl | split)
@[simp] theorem State.beginFrame_monitor : s.beginFrame.monitor = s.monitor := by
  unfold State.beginFrame; repeat (first | rfl | split)
@[simp] theorem State.beginFrame_resetWaiting : s.beginFrame.resetWaiting = s.resetWaiting := by
  unfold State.beginFrame; repeat (first | rfl | split)
@[simp] theorem State.beginFrame_events : s.beginFrame.events = s.events := by
  unfold State.beginFrame; repeat (first | rfl | split)
@[simp] theorem State.beginFrame_time : s.beginFrame.time = s.time := by
  unfold State.beginFrame; repeat (first | rfl | split)
@[simp] theorem State.beginFrame_resetLow : s.beginFrame.resetLow = s.resetLow := by
  unfold State.beginFrame; repeat (first | rfl | split)
@[simp] theorem State.beginFrame_maLevel : s.beginFrame.maLevel = s.maLevel := by
  unfold State.beginFrame; repeat (first | rfl | split)
@[simp] theorem State.beginFrame_monitorAddress : s.beginFrame.monitorAddress = s.monitorAddress := by
  unfold State.beginFrame; repeat (first | rfl | split)
@[simp] theorem State.beginFrame_choices : s.beginFrame.choices = s.choices := by
  unfold State.beginFrame; repeat (first | rfl | split)
@[simp] theorem State.beginFrame_linkRest : s.beginFrame.linkRest = s.linkRest := by
  unfold State.beginFrame; repeat (first | rfl | split)
@[simp] theorem State.beginFrame_pending : s.beginFrame.pending = s.pending := by
  unfold State.beginFrame; repeat (first | rfl | split)

@[simp] theorem State.announceChange_slots (c : Ch) : (s.announceChange c).slots = s.slots := by
  unfold State.announceChange; dsimp only; split <;> rfl
@[simp] theorem State.announceChange_index (c : Ch) : (s.announceChange c).index = s.index := by
  unfold State.announceChange; dsimp only; split <;> rfl
@[simp] theorem State.announceChange_edits (c : Ch) : (s.announceChange c).edits = s.edits := by
  unfold State.announceChange; dsimp only; split <;> rfl
@[simp] theorem State.announceChange_retiring (c : Ch) : (s.announceChange c).retiring = s.retiring := by
  unfold State.announceChange; dsimp only; split <;> rfl
@[simp] theorem State.announceChange_granted (c : Ch) : (s.announceChange c).granted = s.granted := by
  unfold State.announceChange; dsimp only; split <;> rfl
@[simp] theorem State.announceChange_chans (c : Ch) : (s.announceChange c).chans = s.chans := by
  unfold State.announceChange; dsimp only; split <;> rfl
@[simp] theorem State.announceChange_link (c : Ch) : (s.announceChange c).link = s.link := by
  unfold State.announceChange; dsimp only; split <;> rfl
@[simp] theorem State.announceChange_lastSent (c : Ch) : (s.announceChange c).lastSent = s.lastSent := by
  unfold State.announceChange; dsimp only; split <;> rfl
@[simp] theorem State.announceChange_host (c : Ch) : (s.announceChange c).host = s.host := by
  unfold State.announceChange; dsimp only; split <;> rfl
@[simp] theorem State.announceChange_monitor (c : Ch) : (s.announceChange c).monitor = s.monitor := by
  unfold State.announceChange; dsimp only; split <;> rfl
@[simp] theorem State.announceChange_resetWaiting (c : Ch) : (s.announceChange c).resetWaiting = s.resetWaiting := by
  unfold State.announceChange; dsimp only; split <;> rfl
@[simp] theorem State.announceChange_events (c : Ch) : (s.announceChange c).events = s.events := by
  unfold State.announceChange; dsimp only; split <;> rfl
@[simp] theorem State.announceChange_time (c : Ch) : (s.announceChange c).time = s.time := by
  unfold State.announceChange; dsimp only; split <;> rfl
@[simp] theorem State.announceChange_resetLow (c : Ch) : (s.announceChange c).resetLow = s.resetLow := by
  unfold State.announceChange; dsimp only; split <;> rfl
@[simp] theorem State.announceChange_maLevel (c : Ch) : (s.announceChange c).maLevel = s.maLevel := by
  unfold State.announceChange; dsimp only; split <;> rfl
@[simp] theorem State.announceChange_monitorAddress (c : Ch) : (s.announceChange c).monitorAddress = s.monitorAddress := by
  unfold State.announceChange; dsimp only; split <;> rfl
@[simp] theorem State.announceChange_choices (c : Ch) : (s.announceChange c).choices = s.choices := by
  unfold State.announceChange; dsimp only; split <;> rfl
@[simp] theorem State.announceChange_pending (c : Ch) : (s.announceChange c).pending = s.pending := by
  unfold State.announceChange; dsimp only; split <;> rfl

@[simp] theorem State.handOn_slots (c : Ch) : (s.handOn c).slots = s.slots := by
  unfold State.handOn; split <;> simp
@[simp] theorem State.handOn_index (c : Ch) : (s.handOn c).index = s.index := by
  unfold State.handOn; split <;> simp
@[simp] theorem State.handOn_edits (c : Ch) : (s.handOn c).edits = s.edits := by
  unfold State.handOn; split <;> simp
@[simp] theorem State.handOn_retiring (c : Ch) : (s.handOn c).retiring = s.retiring := by
  unfold State.handOn; split <;> simp
@[simp] theorem State.handOn_granted (c : Ch) : (s.handOn c).granted = s.granted := by
  unfold State.handOn; split <;> simp
@[simp] theorem State.handOn_chans (c : Ch) : (s.handOn c).chans = s.chans := by
  unfold State.handOn; split <;> simp
@[simp] theorem State.handOn_host (c : Ch) : (s.handOn c).host = s.host := by
  unfold State.handOn; split <;> simp
@[simp] theorem State.handOn_monitor (c : Ch) : (s.handOn c).monitor = s.monitor := by
  unfold State.handOn; split <;> simp
@[simp] theorem State.handOn_resetWaiting (c : Ch) : (s.handOn c).resetWaiting = s.resetWaiting := by
  unfold State.handOn; split <;> simp
@[simp] theorem State.handOn_events (c : Ch) : (s.handOn c).events = s.events := by
  unfold State.handOn; split <;> simp
@[simp] theorem State.handOn_time (c : Ch) : (s.handOn c).time = s.time := by
  unfold State.handOn; split <;> simp
@[simp] theorem State.handOn_resetLow (c : Ch) : (s.handOn c).resetLow = s.resetLow := by
  unfold State.handOn; split <;> simp
@[simp] theorem State.handOn_maLevel (c : Ch) : (s.handOn c).maLevel = s.maLevel := by
  unfold State.handOn; split <;> simp
@[simp] theorem State.handOn_monitorAddress (c : Ch) : (s.handOn c).monitorAddress = s.monitorAddress := by
  unfold State.handOn; split <;> simp
@[simp] theorem State.handOn_choices (c : Ch) : (s.handOn c).choices = s.choices := by
  unfold State.handOn; split <;> simp
@[simp] theorem State.handOn_pending (c : Ch) : (s.handOn c).pending = s.pending := by
  unfold State.handOn; split <;> simp

@[simp] theorem State.ch_handOn (c d : Ch) : (s.handOn c).ch d = s.ch d := by simp [State.ch]

@[simp] theorem State.slot_handOn (c : Ch) (n : Nat) : (s.handOn c).slot n = s.slot n := by simp [State.slot]

@[simp] theorem State.flagsOf_handOn (c d : Ch) : (s.handOn c).flagsOf d = s.flagsOf d := by simp [State.flagsOf]

/-- A hand-on of the state already announced changes nothing (R141). -/
theorem State.handOn_same (c : Ch) (h : (s.ch c).announced = (s.ann c).announced) : s.handOn c = s := if_pos h

/-- A hand-on of another state makes an announcement, and then a frame may begin (R141). -/
theorem State.handOn_differs (c : Ch) (h : (s.ch c).announced ≠ (s.ann c).announced) :
    s.handOn c =
      (s.setAnn c { s.ann c with
        announced := (s.ch c).announced, seq := (s.ann c).seq + 1,
        entry := some ((s.ch c).announced, (s.ann c).seq + 1) }).beginFrame := by
  simp [State.handOn, State.announceChange, h]

/-- Beginning a frame alters no announced state and no sequence number (R142, R143). -/
theorem State.ann_beginFrame (d : Ch) :
    (s.beginFrame.ann d).announced = (s.ann d).announced ∧ (s.beginFrame.ann d).seq = (s.ann d).seq := by
  unfold State.beginFrame
  split
  · split
    · exact ⟨rfl, rfl⟩
    · rename_i c _
      split
      · exact ⟨rfl, rfl⟩
      · by_cases hd : d = c
        · subst hd
          constructor <;> simp [State.ann, State.setAnn]
        · have : c.val ≠ d.val := fun e => hd (Fin.ext e.symm)
          constructor <;> simp [State.ann, State.setAnn, this]
  · exact ⟨rfl, rfl⟩

/-- After a hand-on the announced state of the channel is the one it forms (R140). -/
theorem State.handOn_announced (c : Ch) : ((s.handOn c).ann c).announced = (s.ch c).announced := by
  by_cases h : (s.ch c).announced = (s.ann c).announced
  · rw [s.handOn_same c h, h]
  · rw [s.handOn_differs c h, ((State.ann_beginFrame _ c)).1, State.ann_setAnn_same]

/-- A hand-on leaves the announced state of every other channel (R141). -/
theorem State.handOn_announced_ne (c d : Ch) (hd : d ≠ c) : ((s.handOn c).ann d).announced = (s.ann d).announced := by
  by_cases h : (s.ch c).announced = (s.ann c).announced
  · rw [s.handOn_same c h]
  · rw [s.handOn_differs c h, ((State.ann_beginFrame _ d)).1, State.ann_setAnn_ne _ _ _ _ hd]

/-! ## Binding counts and retirement (R5, R110, R123) -/

@[simp] theorem State.freeSlot_index (n : Nat) : (s.freeSlot n).index = s.index := rfl
@[simp] theorem State.freeSlot_edits (n : Nat) : (s.freeSlot n).edits = s.edits := rfl
@[simp] theorem State.freeSlot_retiring (n : Nat) : (s.freeSlot n).retiring = s.retiring := rfl
@[simp] theorem State.freeSlot_granted (n : Nat) : (s.freeSlot n).granted = s.granted := rfl
@[simp] theorem State.freeSlot_chans (n : Nat) : (s.freeSlot n).chans = s.chans := rfl
@[simp] theorem State.freeSlot_announcer (n : Nat) : (s.freeSlot n).announcer = s.announcer := rfl
@[simp] theorem State.freeSlot_link (n : Nat) : (s.freeSlot n).link = s.link := rfl
@[simp] theorem State.freeSlot_lastSent (n : Nat) : (s.freeSlot n).lastSent = s.lastSent := rfl
@[simp] theorem State.freeSlot_host (n : Nat) : (s.freeSlot n).host = s.host := rfl
@[simp] theorem State.freeSlot_monitor (n : Nat) : (s.freeSlot n).monitor = s.monitor := rfl
@[simp] theorem State.freeSlot_resetWaiting (n : Nat) : (s.freeSlot n).resetWaiting = s.resetWaiting := rfl
@[simp] theorem State.freeSlot_events (n : Nat) : (s.freeSlot n).events = s.events := rfl
@[simp] theorem State.freeSlot_time (n : Nat) : (s.freeSlot n).time = s.time := rfl
@[simp] theorem State.freeSlot_resetLow (n : Nat) : (s.freeSlot n).resetLow = s.resetLow := rfl
@[simp] theorem State.freeSlot_maLevel (n : Nat) : (s.freeSlot n).maLevel = s.maLevel := rfl
@[simp] theorem State.freeSlot_monitorAddress (n : Nat) : (s.freeSlot n).monitorAddress = s.monitorAddress := rfl
@[simp] theorem State.freeSlot_choices (n : Nat) : (s.freeSlot n).choices = s.choices := rfl
@[simp] theorem State.freeSlot_pending (n : Nat) : (s.freeSlot n).pending = s.pending := rfl

@[simp] theorem State.completeRetirement_index (h : Handle) : (s.completeRetirement h).index = s.index := rfl
@[simp] theorem State.completeRetirement_edits (h : Handle) : (s.completeRetirement h).edits = s.edits := rfl
@[simp] theorem State.completeRetirement_granted (h : Handle) : (s.completeRetirement h).granted = s.granted := rfl
@[simp] theorem State.completeRetirement_chans (h : Handle) : (s.completeRetirement h).chans = s.chans := rfl
@[simp] theorem State.completeRetirement_announcer (h : Handle) : (s.completeRetirement h).announcer = s.announcer := rfl
@[simp] theorem State.completeRetirement_link (h : Handle) : (s.completeRetirement h).link = s.link := rfl
@[simp] theorem State.completeRetirement_lastSent (h : Handle) : (s.completeRetirement h).lastSent = s.lastSent := rfl
@[simp] theorem State.completeRetirement_host (h : Handle) : (s.completeRetirement h).host = s.host := rfl
@[simp] theorem State.completeRetirement_monitor (h : Handle) : (s.completeRetirement h).monitor = s.monitor := rfl
@[simp] theorem State.completeRetirement_resetWaiting (h : Handle) : (s.completeRetirement h).resetWaiting = s.resetWaiting := rfl
@[simp] theorem State.completeRetirement_time (h : Handle) : (s.completeRetirement h).time = s.time := rfl
@[simp] theorem State.completeRetirement_resetLow (h : Handle) : (s.completeRetirement h).resetLow = s.resetLow := rfl
@[simp] theorem State.completeRetirement_maLevel (h : Handle) : (s.completeRetirement h).maLevel = s.maLevel := rfl
@[simp] theorem State.completeRetirement_monitorAddress (h : Handle) : (s.completeRetirement h).monitorAddress = s.monitorAddress := rfl
@[simp] theorem State.completeRetirement_choices (h : Handle) : (s.completeRetirement h).choices = s.choices := rfl
@[simp] theorem State.completeRetirement_pending (h : Handle) : (s.completeRetirement h).pending = s.pending := rfl

@[simp] theorem State.countUp_index (h : Handle) : (s.countUp h).index = s.index := rfl
@[simp] theorem State.countUp_edits (h : Handle) : (s.countUp h).edits = s.edits := rfl
@[simp] theorem State.countUp_retiring (h : Handle) : (s.countUp h).retiring = s.retiring := rfl
@[simp] theorem State.countUp_granted (h : Handle) : (s.countUp h).granted = s.granted := rfl
@[simp] theorem State.countUp_chans (h : Handle) : (s.countUp h).chans = s.chans := rfl
@[simp] theorem State.countUp_announcer (h : Handle) : (s.countUp h).announcer = s.announcer := rfl
@[simp] theorem State.countUp_link (h : Handle) : (s.countUp h).link = s.link := rfl
@[simp] theorem State.countUp_lastSent (h : Handle) : (s.countUp h).lastSent = s.lastSent := rfl
@[simp] theorem State.countUp_host (h : Handle) : (s.countUp h).host = s.host := rfl
@[simp] theorem State.countUp_monitor (h : Handle) : (s.countUp h).monitor = s.monitor := rfl
@[simp] theorem State.countUp_resetWaiting (h : Handle) : (s.countUp h).resetWaiting = s.resetWaiting := rfl
@[simp] theorem State.countUp_events (h : Handle) : (s.countUp h).events = s.events := rfl
@[simp] theorem State.countUp_time (h : Handle) : (s.countUp h).time = s.time := rfl
@[simp] theorem State.countUp_resetLow (h : Handle) : (s.countUp h).resetLow = s.resetLow := rfl
@[simp] theorem State.countUp_maLevel (h : Handle) : (s.countUp h).maLevel = s.maLevel := rfl
@[simp] theorem State.countUp_monitorAddress (h : Handle) : (s.countUp h).monitorAddress = s.monitorAddress := rfl
@[simp] theorem State.countUp_choices (h : Handle) : (s.countUp h).choices = s.choices := rfl
@[simp] theorem State.countUp_pending (h : Handle) : (s.countUp h).pending = s.pending := rfl

@[simp] theorem State.countDown_index (h : Handle) : (s.countDown h).index = s.index := by
  unfold State.countDown; dsimp only; repeat (first | rfl | split)
@[simp] theorem State.countDown_edits (h : Handle) : (s.countDown h).edits = s.edits := by
  unfold State.countDown; dsimp only; repeat (first | rfl | split)
@[simp] theorem State.countDown_granted (h : Handle) : (s.countDown h).granted = s.granted := by
  unfold State.countDown; dsimp only; repeat (first | rfl | split)
@[simp] theorem State.countDown_chans (h : Handle) : (s.countDown h).chans = s.chans := by
  unfold State.countDown; dsimp only; repeat (first | rfl | split)
@[simp] theorem State.countDown_announcer (h : Handle) : (s.countDown h).announcer = s.announcer := by
  unfold State.countDown; dsimp only; repeat (first | rfl | split)
@[simp] theorem State.countDown_link (h : Handle) : (s.countDown h).link = s.link := by
  unfold State.countDown; dsimp only; repeat (first | rfl | split)
@[simp] theorem State.countDown_lastSent (h : Handle) : (s.countDown h).lastSent = s.lastSent := by
  unfold State.countDown; dsimp only; repeat (first | rfl | split)
@[simp] theorem State.countDown_host (h : Handle) : (s.countDown h).host = s.host := by
  unfold State.countDown; dsimp only; repeat (first | rfl | split)
@[simp] theorem State.countDown_monitor (h : Handle) : (s.countDown h).monitor = s.monitor := by
  unfold State.countDown; dsimp only; repeat (first | rfl | split)
@[simp] theorem State.countDown_resetWaiting (h : Handle) : (s.countDown h).resetWaiting = s.resetWaiting := by
  unfold State.countDown; dsimp only; repeat (first | rfl | split)
@[simp] theorem State.countDown_time (h : Handle) : (s.countDown h).time = s.time := by
  unfold State.countDown; dsimp only; repeat (first | rfl | split)
@[simp] theorem State.countDown_resetLow (h : Handle) : (s.countDown h).resetLow = s.resetLow := by
  unfold State.countDown; dsimp only; repeat (first | rfl | split)
@[simp] theorem State.countDown_maLevel (h : Handle) : (s.countDown h).maLevel = s.maLevel := by
  unfold State.countDown; dsimp only; repeat (first | rfl | split)
@[simp] theorem State.countDown_monitorAddress (h : Handle) : (s.countDown h).monitorAddress = s.monitorAddress := by
  unfold State.countDown; dsimp only; repeat (first | rfl | split)
@[simp] theorem State.countDown_choices (h : Handle) : (s.countDown h).choices = s.choices := by
  unfold State.countDown; dsimp only; repeat (first | rfl | split)
@[simp] theorem State.countDown_pending (h : Handle) : (s.countDown h).pending = s.pending := by
  unfold State.countDown; dsimp only; repeat (first | rfl | split)

@[simp] theorem State.indexInsert_slots (n : Nat) : (s.indexInsert n).slots = s.slots := rfl
@[simp] theorem State.indexInsert_edits (n : Nat) : (s.indexInsert n).edits = s.edits := rfl
@[simp] theorem State.indexInsert_retiring (n : Nat) : (s.indexInsert n).retiring = s.retiring := rfl
@[simp] theorem State.indexInsert_granted (n : Nat) : (s.indexInsert n).granted = s.granted := rfl
@[simp] theorem State.indexInsert_chans (n : Nat) : (s.indexInsert n).chans = s.chans := rfl
@[simp] theorem State.indexInsert_announcer (n : Nat) : (s.indexInsert n).announcer = s.announcer := rfl
@[simp] theorem State.indexInsert_link (n : Nat) : (s.indexInsert n).link = s.link := rfl
@[simp] theorem State.indexInsert_lastSent (n : Nat) : (s.indexInsert n).lastSent = s.lastSent := rfl
@[simp] theorem State.indexInsert_host (n : Nat) : (s.indexInsert n).host = s.host := rfl
@[simp] theorem State.indexInsert_monitor (n : Nat) : (s.indexInsert n).monitor = s.monitor := rfl
@[simp] theorem State.indexInsert_resetWaiting (n : Nat) : (s.indexInsert n).resetWaiting = s.resetWaiting := rfl
@[simp] theorem State.indexInsert_events (n : Nat) : (s.indexInsert n).events = s.events := rfl
@[simp] theorem State.indexInsert_time (n : Nat) : (s.indexInsert n).time = s.time := rfl
@[simp] theorem State.indexInsert_resetLow (n : Nat) : (s.indexInsert n).resetLow = s.resetLow := rfl
@[simp] theorem State.indexInsert_maLevel (n : Nat) : (s.indexInsert n).maLevel = s.maLevel := rfl
@[simp] theorem State.indexInsert_monitorAddress (n : Nat) : (s.indexInsert n).monitorAddress = s.monitorAddress := rfl
@[simp] theorem State.indexInsert_choices (n : Nat) : (s.indexInsert n).choices = s.choices := rfl
@[simp] theorem State.indexInsert_pending (n : Nat) : (s.indexInsert n).pending = s.pending := rfl

@[simp] theorem State.indexRemove_slots (n : Nat) : (s.indexRemove n).slots = s.slots := rfl
@[simp] theorem State.indexRemove_edits (n : Nat) : (s.indexRemove n).edits = s.edits := rfl
@[simp] theorem State.indexRemove_retiring (n : Nat) : (s.indexRemove n).retiring = s.retiring := rfl
@[simp] theorem State.indexRemove_granted (n : Nat) : (s.indexRemove n).granted = s.granted := rfl
@[simp] theorem State.indexRemove_chans (n : Nat) : (s.indexRemove n).chans = s.chans := rfl
@[simp] theorem State.indexRemove_announcer (n : Nat) : (s.indexRemove n).announcer = s.announcer := rfl
@[simp] theorem State.indexRemove_link (n : Nat) : (s.indexRemove n).link = s.link := rfl
@[simp] theorem State.indexRemove_lastSent (n : Nat) : (s.indexRemove n).lastSent = s.lastSent := rfl
@[simp] theorem State.indexRemove_host (n : Nat) : (s.indexRemove n).host = s.host := rfl
@[simp] theorem State.indexRemove_monitor (n : Nat) : (s.indexRemove n).monitor = s.monitor := rfl
@[simp] theorem State.indexRemove_resetWaiting (n : Nat) : (s.indexRemove n).resetWaiting = s.resetWaiting := rfl
@[simp] theorem State.indexRemove_events (n : Nat) : (s.indexRemove n).events = s.events := rfl
@[simp] theorem State.indexRemove_time (n : Nat) : (s.indexRemove n).time = s.time := rfl
@[simp] theorem State.indexRemove_resetLow (n : Nat) : (s.indexRemove n).resetLow = s.resetLow := rfl
@[simp] theorem State.indexRemove_maLevel (n : Nat) : (s.indexRemove n).maLevel = s.maLevel := rfl
@[simp] theorem State.indexRemove_monitorAddress (n : Nat) : (s.indexRemove n).monitorAddress = s.monitorAddress := rfl
@[simp] theorem State.indexRemove_choices (n : Nat) : (s.indexRemove n).choices = s.choices := rfl
@[simp] theorem State.indexRemove_pending (n : Nat) : (s.indexRemove n).pending = s.pending := rfl

/-- Lowering a count sets no channel flag (R110, R123). -/
theorem State.flagsOf_countDown (h : Handle) (d : Ch) : (s.countDown h).flagsOf d = s.flagsOf d := by
  unfold State.countDown; dsimp only; repeat (first | rfl | split)

/-- Lowering a count touches no slot but the one the handle names. -/
theorem State.slot_countDown_ne (h : Handle) (n : Nat) (hn : n ≠ h.slot.toNat) : (s.countDown h).slot n = s.slot n := by
  unfold State.countDown
  split
  · dsimp only
    split
    · show ((((s.setSlot _ _).freeSlot _)).slot n) = _
      simp only [State.freeSlot]
      rw [State.slot_setSlot_ne _ _ _ _ hn, State.slot_setSlot_ne _ _ _ _ hn]
    · rw [State.slot_setSlot_ne _ _ _ _ hn]
  · rfl

/-- Raising a count touches no slot but the one the handle names. -/
theorem State.slot_countUp_ne (h : Handle) (n : Nat) (hn : n ≠ h.slot.toNat) : (s.countUp h).slot n = s.slot n :=
  State.slot_setSlot_ne _ _ _ _ hn

/-! ## The match index (R17, R18) -/

/-- Placing a slot in a list adds it and nothing else (R18). -/
theorem State.mem_place (n m : Nat) (l : List Nat) : m ∈ s.place n l ↔ m = n ∨ m ∈ l := by
  induction l with
  | nil => simp [State.place]
  | cons k l ih =>
    simp only [State.place]
    split
    · simp
    · simp only [List.mem_cons, ih]; tauto

/-- Match keys are compared without ties only in one direction (R15). -/
theorem Key.not_less_self (k : Key) : k.less k = false := by simp [Key.less]

/-! ## The arbiter (R41) -/

/-- The arbiter grants only a requester that has a request posted (R41). -/
theorem State.arbiter_posted (r : Fin 8) (h : s.arbiter = some r) : s.posted r = true :=
  List.find?_some h

/-- The requester granted last is one of the eight that the arbiter tries (R41). -/
theorem mem_requestersAfter (g r : Fin 8) : r ∈ requestersAfter g := by
  revert g r; decide

/-- Where any requester has a request posted, the arbiter grants one (R41). -/
theorem State.arbiter_isSome (r : Fin 8) (h : s.posted r = true) : s.arbiter.isSome = true := by
  simp only [State.arbiter, List.find?_isSome]
  exact ⟨r, mem_requestersAfter s.granted r, h⟩

/-! ## Command slots (R149 to R153) -/

/-- A response placed stands in the port's buffer (R149). -/
@[simp] theorem State.slot_respond (p : Port) (r : Response) : ((s.respond p r).port p).slot = .ready r := by
  simp [State.respond]

/-- A command in EXECUTING that its block may take is served whole, and its response is placed (R152). -/
theorem State.take_executing (p : Port) (tag : Byte) (cmd : Cmd) (serve : State → State × Reply)
    (hx : (s.port p).slot = .executing tag cmd) (hm : s.mayTake p cmd = true) :
    s.take p tag cmd serve =
      (serve (if cmd.byController then { s with granted := portRequester p } else s)).1.respond p
        { status := (serve (if cmd.byController then { s with granted := portRequester p } else s)).2.status, tag := tag,
          data := (serve (if cmd.byController then { s with granted := portRequester p } else s)).2.data } := by
  simp [State.take, hx, hm]

/-- A command in EXECUTING waits while the arbiter's turn is another requester's (R41). -/
theorem State.take_waits (p : Port) (tag : Byte) (cmd : Cmd) (serve : State → State × Reply)
    (hm : s.mayTake p cmd = false) : s.take p tag cmd serve = s := by
  simp [State.take, hm]

/-- A command's row on a slot that holds the command is its taking (entry 2). -/
theorem State.command_executing (p : Port) (tag : Byte) (cmd : Cmd) (serve : State → State × Reply)
    (hx : (s.port p).slot = .executing tag cmd) : s.command p tag cmd serve = s.take p tag cmd serve := by
  simp [State.command, hx]

/-- A frame on a port whose slot is occupied changes nothing (R151). -/
theorem State.present_busy (p : Port) (tag : Byte) (cmd : Cmd) (ho : (s.port p).slot ≠ .empty)
    (hw : s.resetWaiting = false) : s.present p tag cmd = s := by
  unfold State.present; split
  · rfl
  · simp [ho, hw]

/-- The queue and the count of choices outlast a full reset, which are the model's own (entry 1). -/
@[simp] theorem State.fullReset_pending : s.fullReset.pending = s.pending := rfl

@[simp] theorem State.fullReset_choices : s.fullReset.choices = s.choices := rfl

/-- A full reset empties the slot of each port and remembers what it held (R160, entry 23). -/
theorem State.fullReset_port (p : Port) : s.fullReset.port p = (s.port p).cut := by cases p <;> rfl

/-- What a full reset makes of a part does not depend on what its blocks held, but for the slots that a cut read began on (R160). -/
theorem State.fullReset_fullReset :
    s.fullReset.fullReset = { s.fullReset with host := PortState.initial, monitor := PortState.initial } := rfl

end Sys2Proof.Machine
end

