-- ==== Sys2Proof/Laws/Ports.lean ====
section
/-! SUPPORT. What the end of a command frame can do (R149 to R152). -/

namespace Sys2Proof.Machine

variable (s : State)

/-- A command that the port does not take itself stands in EXECUTING after its handing over, and nothing else changes (R152). -/
theorem State.handOver_waits (p : Port) (tag : Byte) (cmd : Cmd) (h : cmd.byPort = false) :
    s.handOver p tag cmd = s.setPort p { s.port p with slot := .executing tag cmd } := by
  cases cmd <;> first | rfl | simp [Cmd.byPort] at h

/-- RESET DEVICE FULL is answered DONE at its handing over, and the full reset waits (R160). -/
theorem State.handOver_resetFull (p : Port) (tag : Byte) :
    s.handOver p tag .resetFull =
      ({ s with resetWaiting := true } : State).respond p { status := .done, tag := tag, data := [] } := by
  exact (State.take_executing _ p tag .resetFull State.serveResetFull (by cases p <;> rfl) rfl).trans (by cases p <;> rfl)

/-- RESET DEVICE with another parameter is answered at its handing over (R159). -/
theorem State.handOver_resetOther (p : Port) (tag selector : Byte) :
    s.handOver p tag (.resetOther selector) =
      let r := State.serveResetOther selector (s.setPort p { s.port p with slot := .executing tag (.resetOther selector) })
      r.1.respond p { status := r.2.status, tag := tag, data := r.2.data } := by
  unfold State.handOver
  exact State.take_executing _ p tag _ _ (by cases p <;> rfl) rfl

/-- The end of a frame in RECEIVING answers the failed check of R150 or hands the command over (R152). -/
theorem State.frameEnd_receiving (p : Port) (bytes : List Byte) (hl : s.resetLow = false) (hr : (s.port p).refusing = false)
    (hx : (s.port p).slot = .receiving) :
    s.frameEnd p bytes =
      match intake p bytes with
      | .error e => s.respond p { status := e, tag := frameTag bytes, data := [] }
      | .ok cmd => s.handOver p (frameTag bytes) cmd := by
  simp only [State.frameEnd, hl, hr, hx]
  cases intake p bytes <;> rfl

end Sys2Proof.Machine
end

