-- ==== Sys2Proof/WellFormed.lean ====
section
/-! DEFINITION. Which commands and events can be presented to the block as the row they are written as. -/

namespace Sys2Proof

/-- A cycle of a sync input runs from a rising edge to the next with a falling edge between them (R63). -/
def cycleWellFormed (high cycle : Nat) : Bool := 0 < high && high < cycle

/-- Selector 0 names the row's sibling (OPEN_EDIT_NEW, LIST_RECORDS_START, RESET_DEVICE_FULL), not this row (R164). -/
def selectorWellFormed (selector : Byte) : Bool := selector != 0

/-- Checks of an instruction's operands that its row presumes. -/
def Instr.wellFormed : Instr → Bool
  | .commandFrameEnd _ bytes => !bytes.isEmpty
  | .hostCommandTransaction type _ => type != 0xA5
  | .resetDeviceChannels _ _ selector => selectorWellFormed selector
  | .listRecordsAfterKey _ _ selector _ _ _ => selectorWellFormed selector
  | .openEdit _ _ selector _ => selectorWellFormed selector
  | .lmCycleComplete _ high cycle => cycleWellFormed high cycle
  | .vmCycleComplete _ high cycle => cycleWellFormed high cycle
  | .powerOn _ | .nresetAssert | .nresetRelease _ | .commandFrameStart _ | .responseReadEnd _ _ _ | .hostReadResponse _
  | .monitorWriteTransfer _ _ | .monitorReadTransfer _ _ | .readDevice _ _ | .setupDevice _ _ _ _ _ _ _
  | .resetDeviceFull _ _ | .readRecord _ _ _ | .listRecordsStart _ _ | .findFormat _ _ _ _ _ _ _ _ _ | .openEditNew _ _
  | .setField _ _ _ _ _ | .clearField _ _ _ _ | .readEdit _ _ _ | .commitEdit _ _ _ | .dropEdit _ _ _ | .leaseExpiry _
  | .retireRecord _ _ _ | .retireTimerExpiry _ | .forceBinding _ _ _ _ | .configureChannel _ _ _ _ | .startChannel _ _ _
  | .stopChannel _ _ _ | .rearmChannel _ _ _ | .readChannel _ _ _ | .readMeasurement _ _ _ | .flushShortlist _ _ _
  | .readEvents _ _ | .clearEvents _ _ _ _ | .setEventMasks _ _ _ _ _ | .matchRequest _ | .rematchRequest _
  | .shortlistRebuild _ | .releaseRequest _ | .polarityChange _ _ | .lineMarker _ _ | .longLinePeriod _ | .blockBoundary _
  | .verticalMarker _ | .longVerticalInterval _ | .syncWidthComplete _ | .lineLossExpiry _ | .verticalLossExpiry _
  | .holdLimitExpiry _ | .substituteFrameStart _ | .substituteLine _ | .announceFrameComplete | .subLmPulseEnd _ => true

end Sys2Proof
end

