-- ==== Sys2Proof/Tests/Slice0.lean ====
section
/-! SUPPORT. Tests: the checks of WellFormed, one step of each command on small states with results worked out from the spec's
examples (chapter 11 unless said otherwise), and a witness for the hypotheses of every obligation that has some. -/

namespace Sys2Proof.Tests

open Sys2Proof Sys2Proof.Machine Sys2Proof.Claims

/-! ## WellFormed: each check refuses its ill-formed term -/

theorem test_empty_frame_is_refused : (Instr.commandFrameEnd .host []).wellFormed = false := by decide
theorem test_read_type_as_a_command_is_refused : (Instr.hostCommandTransaction 0xA5 []).wellFormed = false := by decide
theorem test_full_selector_is_refused : (Instr.resetDeviceChannels .host 1 0).wellFormed = false := by decide
theorem test_start_selector_is_refused : (Instr.listRecordsAfterKey .host 1 0 0 0 0).wellFormed = false := by decide
theorem test_new_selector_is_refused : (Instr.openEdit .host 1 0 ⟨0, 0⟩).wellFormed = false := by decide
theorem test_lm_cycle_without_an_edge_is_refused : (Instr.lmCycleComplete 0 0 4).wellFormed = false := by decide
theorem test_vm_cycle_without_an_edge_is_refused : (Instr.vmCycleComplete 0 4 4).wellFormed = false := by decide
theorem test_well_formed_terms_pass :
    ([.commandFrameEnd .host [1], .hostCommandTransaction 0x5A [], .resetDeviceChannels .host 1 1, .openEdit .host 1 1 ⟨0, 0⟩,
      .listRecordsAfterKey .host 1 1 0 0 0, .lmCycleComplete 0 1 2, .vmCycleComplete 0 1 2] : List Instr).all Instr.wellFormed =
      true := by decide

/-! ## Small states -/

/-- The next state of a command, the state itself where it has none. -/
def after (i : Instr) (s : State) : State :=
  match exec i s with
  | .next t => t
  | _ => s

/-- A command standing in EXECUTING on a port, with tag 7. -/
def asked (p : Port) (cmd : Cmd) (s : State) : State := s.setPort p { PortState.initial with slot := .executing 7 cmd }

/-- Record A of the worked examples. -/
def recordA : Body :=
  { Body.blank with
    linePeriod := 1600, lineTol := 6, frameLines := 625, frameTol := 2, scan := .interlaced, verifyBlock := some 40, priority := 1,
    tag := 0x0101 }

/-- Record B of the worked examples. -/
def recordB : Body :=
  { Body.blank with linePeriod := 1620, lineTol := 8, frameLines := 600, frameTol := 3, priority := 1, tag := 0x0102 }

/-- The catalogue of the worked examples: A as 0:0 and B as 1:0, each at revision 0. -/
def catalogue : State :=
  ((State.reset.setSlot 0 { Slot.empty with state := .live, body := recordA }).setSlot 1
    { Slot.empty with state := .live, body := recordB }).indexInsert 0 |>.indexInsert 1

/-- Context 0 OPEN on a target with a working body. -/
def editing (target : Option Handle) (w : WorkBody) : State :=
  let s := catalogue.setEdit 0 (some { target := target, body := w, changed := 0, lease := ⟨5, 0⟩ })
  match target with
  | some h => s.setSlot h.slot.toNat { s.record h with mark := some 0 }
  | none => s

/-- The binding of a channel to record A with an origin. -/
def toA (origin : Origin) : Binding := { handle := ⟨0, 0⟩, revSeen := 0, origin := origin, body := recordA }

/-- The measurement of a source of A's format. -/
def measuredA : Measurement :=
  { linePeriod := 1601, frameLines := 625, scan := some .interlaced, syncWidth := 5, linePolarity := some .negative,
    verticalPolarity := some .negative }

/-- The measurement record of a source of A's format. -/
def recordOfA : MeasureRecord :=
  { MeasureRecord.cleared with
    valid := true, linePeriod := 1601, frameLines := 625, scan := some .interlaced, syncWidth := 5,
    linePolarity := some .negative, verticalPolarity := some .negative, frameRun := 3, stabilityRun := 64 }

/-- The front end of a channel that measures a source of A's format. -/
def frontOfA : FrontEnd :=
  { FrontEnd.cleared with
    lmPolarity := some .negative, vmPolarity := some .negative, period := some 0, prevPeriod := some 1601,
    block := .running 32 31 49649, prevAverage := some 1601, blockSeen := true, interval := some 312, prevInterval := some 313,
    width := some 5 }

/-- A channel in MEASURING with its match posted. -/
def matching : Channel :=
  { Channel.initial with
    acq := .measuring, record := recordOfA, front := frontOfA, request := some (.acquire measuredA)
    lineLoss := some ⟨10, 0⟩ }

/-- A channel LOCKED on A. -/
def lockedOnA : Channel :=
  { Channel.initial with
    acq := .locked, binding := .holding (toA .found), shortlist := [⟨⟨1, 0⟩, 0⟩], record := recordOfA, front := frontOfA
    lineLoss := some ⟨10, 0⟩, verticalLoss := some ⟨100, 0⟩ }

/-- A channel DRIFTING from A with its rematch posted. -/
def driftingFromA : Channel :=
  { lockedOnA with acq := .drifting, verticalLoss := none, request := some (.rematch measuredA) }

/-- A channel whose binding to A departs after input loss, with hold policy LAST. -/
def leavingA : Channel :=
  { Channel.initial with
    settings := { Settings.default with holdPolicy := .last, holdLimit := 50 }
    acq := .seeking, binding := .departing { handle := ⟨0, 0⟩, origin := .found, revSeen := 0, cause := .inputLoss }
    request := some (.release .last) }

/-- A generator with A's frame setting. -/
def generatorOfA : Generator :=
  { setting := recordA.frameSetting, phase := .frameDue, second := false, line := 0, tick := 0 }

/-- A channel in SEEKING held on A. -/
def holdingA : Channel :=
  { Channel.initial with
    settings := { Settings.default with holdPolicy := .last, holdLimit := 50 }
    acq := .seeking, binding := .holding (toA .hold), holdLimit := some ⟨50, 0⟩, generator := some generatorOfA
    front := frontOfA.abandon }

/-- A channel FROZEN on A. -/
def frozenOnA : Channel := { Channel.initial with acq := .frozen, binding := .holding (toA .found) }

/-- The catalogue with CH2 in a state and A's binding count. -/
def withCh2 (ch : Channel) (count : Nat) : State :=
  let s := (catalogue.setSlot 0 { catalogue.slot 0 with count := count }).setCh 2 ch
  s.setAnn 2 { s.ann 2 with announced := ch.announced }

/-- CH2 as the arbiter's next requester. -/
def toCh2 (s : State) : State := { s with granted := 3 }

/-- A RETIRING, with CH2 bound to it. -/
def retiringA (ch : Channel) : State :=
  let s := withCh2 ch 1
  { (s.setSlot 0 { s.slot 0 with state := .retiring }).indexRemove 0 with retiring := [⟨⟨0, 0⟩, ⟨50, 0⟩⟩] }

/-! ## The step, resets and invariants -/

theorem witness_IdleStepTakesOwnWorkOrOneEdge :
    State.reset.pending = [] ∧ State.reset.ownWork = none ∧ (toCh2 (withCh2 matching 0)).pending = [] ∧
      (toCh2 (withCh2 matching 0)).ownWork = some (.matchRequest 2) := by decide

/-- States whose next own event is an expiry, and one whose next own event is none, for the clauses on timers; a unit of 4800 REFCLK
periods and a divider of 4 for those on edges. -/
theorem witness_expiries :
    let lost := withCh2 { lockedOnA with lineLoss := some ⟨0, 0⟩ } 1
    let lease := catalogue.setEdit 0 (some { target := none, body := WorkBody.fresh, changed := 0, lease := ⟨0, 0⟩ })
    let forced := { retiringA lockedOnA with retiring := [⟨⟨0, 0⟩, ⟨0, 0⟩⟩] }
    lost.ownWork = some (.lineLossExpiry 2) ∧ (∀ d < (2 : Ch), (lost.ch d).ownEvent d = none) ∧ markerDue (lost.ch 2) = false ∧
      channelExpiry 2 (lost.ch 2) ≠ none ∧ lease.ownWork = some (.leaseExpiry 0) ∧ (∀ c, (lease.ch c).ownEvent c = none) ∧
      leaseOut (lease.edit 0) = true ∧ forced.ownWork = some (.retireTimerExpiry ⟨0, 0⟩) ∧ lease.link = none ∧
      (∀ c, (forced.ch c).ownEvent c = none) ∧ (∀ k, leaseOut (forced.edit k) = false) ∧ State.reset.ownWork = none ∧
      State.reset.host.slot = .empty ∧ (0 < 4800 ∧ 4800 ≤ 4800) ∧ TimeBase.initial.phase = 0 ∧ 0 < TimeBase.initial.divider := by
  decide

/-- The part's other own events come at their times and not one tick sooner (R132, R133, R144, R66): P = 1600 ticks of a substitute line,
P/16 = 100 of a SUB_LM pulse, 320 REFCLK periods of a frame, a line period past 65535. -/
theorem test_own_work_at_its_time :
    let line (tick : Nat) (high : Bool) :=
      (withCh2 { holdingA with subLm := high, generator := some { generatorOfA with phase := .generating, tick := tick } } 1).ownWork
    let frame (n : Nat) : State :=
      { State.reset with link := some { channel := 0, announced := Announced.nothing, seq := 4, frame := 0, elapsed := n } }
    let period (n : Nat) := withCh2 { lockedOnA with front := { lockedOnA.front with period := some n } } 1
    line 1600 false = some (.substituteLine 2) ∧ line 1599 false = none ∧ line 100 true = some (.subLmPulseEnd 2) ∧
      line 99 true = none ∧ (frame 320).ownWork = some .announceFrameComplete ∧ (frame 319).ownWork = none ∧
      ({ frame 320 with linkRest := 1 } : State).ownWork = none ∧ (period 65536).ownWork = some (.longLinePeriod 2) ∧
      (period 65535).ownWork = none := by decide

/-- The part one REFCLK period on: a divider of 2 gives a tick at each second edge (R59), a timer of one unit ends with the last period
of its unit (R60). -/
theorem test_clock_edge :
    let s := withCh2 { lockedOnA with lineLoss := some ⟨1, 4799⟩, verticalLoss := some ⟨1, 4799⟩ } 1
    let t := { s with time := { s.time with divider := 2 } }.clockEdge
    (t.ch 2).lineLoss = some ⟨0, 0⟩ ∧ (t.ch 2).verticalLoss = some ⟨1, 4800⟩ ∧ (t.ch 2).front.period = some 0 ∧
      (t.clockEdge.ch 2).front.period = some 1 := by decide

theorem witness_laws_at_reset : State.reset.lawful = true ∧ ∃ t, step State.reset = .next t := ⟨by decide, _, rfl⟩

theorem witness_laws_of_bound_channels :
    (withCh2 lockedOnA 1).lawful = true ∧ (withCh2 driftingFromA 1).lawful = true ∧ (withCh2 leavingA 1).lawful = true ∧
      (withCh2 holdingA 1).lawful = true ∧ (retiringA lockedOnA).lawful = true := by decide

theorem witness_laws_kept_by_a_step :
    ∃ t, step { withCh2 lockedOnA 1 with pending := [.lineLossExpiry 2] } = .next t ∧ (t.ch 2).acq = .seeking :=
  ⟨_, rfl, by decide⟩

theorem test_power_on_samples_the_strap :
    (after (.powerOn true) catalogue).monitorAddress = 0x3B ∧ (after (.powerOn true) catalogue).index = [] ∧
      (after (.powerOn false) catalogue).monitorAddress = 0x3A := by decide

theorem test_reset_pin_holds_the_part :
    (after .nresetAssert catalogue).resetLow = true ∧
      (after (.commandFrameStart .host) (after .nresetAssert catalogue)).host.slot = .empty ∧
      (after (.nresetRelease true) (after .nresetAssert catalogue)).monitorAddress = 0x3B := by decide

/-! ## Frames and ports -/

/-- A code that no command has, with a parameter byte. -/
theorem witness_CheckByteEndsAtZero : parameterLength 0x7F ≠ some ([0] : List Byte).length := by decide

theorem witness_CommandFramesRoundTrip :
    (Cmd.openEdit 1 ⟨95, 255⟩).wellFormed = true ∧ (Cmd.resetOther 1).wellFormed = true ∧
      (Cmd.listAfter 1 65535 4095 2).wellFormed = true ∧ Cmd.readDevice.wellFormed = true := by decide

set_option maxRecDepth 20000 in
/-- The intake checks of R150: a command of its port, one the monitor port refuses, a short frame, a code no command has, a length other
than the command's. -/
theorem test_frames_come_back :
    intake .monitor (Cmd.readDevice.frame 1) = .ok .readDevice ∧
      intake .monitor ((Cmd.startChannel 0).frame 1) = .error .readOnly ∧
      intake .host ((Cmd.startChannel 0).frame 1) = .ok (.startChannel 0) ∧
      intake .host [0x21, 1, 1, 0] = .error .frameError ∧ intake .host (withCheck [0x7F, 1, 0]) = .error .unknownCommand ∧
      intake .host (withCheck [0x21, 1, 2, 0, 0]) = .error .frameError := by decide

set_option maxRecDepth 20000 in
/-- The example of R167: CH2's announcement LOCKED 0:0/0 with sequence number 1. -/
theorem test_announcement_frame :
    (announceFrame 2 1 ((toA .found).announce .locked)).extractLsb' 2 78 =
      (2 : BitVec 3) ++ (1 : BitVec 4) ++ (1 : BitVec 3) ++ (0 : BitVec 7) ++ (0 : BitVec 8) ++ (0 : BitVec 8) ++
        (0x0101 : BitVec 16) ++ (1600 : BitVec 16) ++ (625 : BitVec 12) ++ (1 : BitVec 1) := by decide

/-- Slots of each kind on both ports. -/
def withSlot (x : CommandSlot) : State := { State.reset with host := { PortState.initial with slot := x } }

/-- A response with no data. -/
def doneOf : Response := { status := .done, tag := 7, data := [] }

theorem witness_FrameStartTakesOrRefuses :
    State.reset.resetLow = false ∧ (State.reset.port .host).slot = .empty ∧ (withSlot (.ready doneOf)).resetLow = false ∧
      ((withSlot (.ready doneOf)).port .host).slot ≠ .empty := by decide

theorem witness_FrameEndMakesTheIntakeChecks :
    (withSlot .receiving).resetLow = false ∧ ((withSlot .receiving).port .host).refusing = false ∧
      ((withSlot .receiving).port .host).slot = .receiving := by decide

theorem witness_RefusedFrameIsDiscarded :
    let s := { State.reset with host := { PortState.initial with slot := .ready doneOf, refusing := true } }
    s.resetLow = false ∧ (s.port .host).refusing = true ∧ (State.reset.port .host).refusing = false ∧
      (State.reset.port .host).slot ≠ .receiving ∧ ({ State.reset with resetLow := true } : State).resetLow = true := by decide

theorem witness_ReadEndFreesTheSlot :
    (withSlot (.ready doneOf)).resetLow = false ∧ (withSlot (.executing 7 .readDevice)).resetLow = false ∧
      (withSlot .receiving).resetLow = false ∧ ({ withSlot (.ready doneOf) with resetWaiting := true } : State).resetLow = false ∧
      ({ State.reset with host := (withSlot (.ready doneOf)).host.cut } : State).resetLow = false ∧
      ({ State.reset with resetLow := true } : State).resetLow = true := by
  decide

set_option maxRecDepth 20000 in
/-- A host read of DONE that a monitor frame's full reset cuts after two bytes returns 0x00 from there, and its end changes no slot
(R160); a read begun before its response returns 0x00 after the NOT_READY frame (R154). -/
theorem test_cut_read :
    let s := after (.commandFrameStart .monitor) { withSlot (.ready doneOf) with resetWaiting := true }
    let t := after (.responseReadEnd .host (.cut true 2) 4) s
    t.host.sent = [0x00, 7, 0, 0] ∧ t.host.slot = .empty ∧ t.monitor.slot = .receiving ∧
      ((after (.responseReadEnd .host (.whole false) 6) (withSlot (.ready doneOf))).host.sent.drop 4) = [0, 0] ∧
      (after (.responseReadEnd .host (.whole true) 4) State.reset).host = PortState.initial := by decide

/-- A frame refused with BUSY leaves the slot (R151, R154); a whole read frees it, and one byte short does not (R153). -/
theorem test_busy_and_reads :
    (after (.commandFrameStart .host) (withSlot (.ready doneOf))).host.sent = [0x03] ∧
      (after (.commandFrameStart .host) (withSlot (.ready doneOf))).host.slot = .ready doneOf ∧
      (after (.responseReadEnd .host (.whole true) 4) (withSlot (.ready doneOf))).host.slot = .empty ∧
      (after (.responseReadEnd .host (.whole true) 3) (withSlot (.ready doneOf))).host.slot = .ready doneOf := by decide

theorem witness_HostTransactionsByType :
    State.reset.resetLow = false ∧ (0x5A : Byte) ≠ 0xA5 ∧ (0x00 : Byte) ≠ 0xA5 := by decide

set_option maxRecDepth 20000 in
theorem test_host_transactions :
    (after (.hostCommandTransaction 0x5A ((Cmd.startChannel 2).frame 9)) State.reset).host.slot =
        .executing 9 (.startChannel 2) ∧
      (after (.hostCommandTransaction 0x11 [1, 2]) State.reset).host.sent = [0, 0, 0] ∧
      (after (.hostReadResponse 5) (withSlot (.ready doneOf))).host.slot = .empty := by decide

theorem witness_MonitorTransfersByAddress : State.reset.resetLow = false ∧ State.reset.monitorAddress = 0x3A := by decide

set_option maxRecDepth 20000 in
theorem test_monitor_transfers :
    (after (.monitorWriteTransfer 0x3A ((Cmd.readChannel 2).frame 9)) State.reset).monitor.slot =
        .executing 9 (.readChannel 2) ∧
      (after (.monitorWriteTransfer 0x3B [1, 2, 3, 4]) State.reset).monitor.acks = [false] ∧
      (after (.monitorReadTransfer 0x3A 2) State.reset).monitor.sent = [0x02, 0] := by decide

theorem witness_CommandRowsFollowTheSlot :
    Cmd.readDevice.wellFormed = true ∧ State.reset.resetWaiting = false ∧ State.reset.resetLow = false ∧
      ((withSlot (.ready doneOf)).port .host).slot ≠ .empty ∧
      ((withSlot (.ready doneOf)).port .host).slot ≠ .executing 7 .readDevice ∧
      ((asked .host .readDevice (toCh2 (withCh2 matching 0))).port .host).slot = .executing 7 .readDevice ∧
      Cmd.readDevice.byController = true ∧
      (asked .host .readDevice (toCh2 (withCh2 matching 0))).arbiter ≠ some (portRequester .host) ∧
      (State.reset.port .host).slot = .empty ∧
      (({ withSlot (.ready doneOf) with resetWaiting := true } : State).port .host).slot ≠ .executing 7 .readDevice ∧
      (State.reset.port .monitor).slot ≠ .executing 7 .readDevice := by decide

/-- A command's row met by a waiting full reset is taken after it (R160), and one met by nRESET low is not taken (R161). -/
theorem test_rows_and_resets :
    (after (.startChannel .host 7 2) { catalogue with resetWaiting := true }).index = [] ∧
      ((after (.startChannel .host 7 2) { catalogue with resetWaiting := true }).ch 2).acq = .seeking ∧
      after (.startChannel .host 7 2) { catalogue with resetLow := true } = { catalogue with resetLow := true } := by decide

/-- Of a posted host command and CH2's request, CH2 is granted after CH1 and the host port after CH2 (R41). -/
theorem test_rotation :
    let s := asked .host .readDevice (toCh2 (withCh2 matching 0))
    s.arbiter = some 4 ∧ ({ s with granted := 4 } : State).arbiter = some 0 ∧ State.reset.arbiter = none := by decide

/-! ## Device commands -/

theorem witness_ReadDeviceReportsThePart :
    executing (asked .monitor .readDevice catalogue) .monitor 7 .readDevice ∧
      portGranted (asked .monitor .readDevice catalogue) .monitor := by decide

set_option maxRecDepth 20000 in
/-- Two LIVE records, no RETIRING one and 94 FREE slots (procedure of chapter 11). -/
theorem test_read_device :
    (after (.readDevice .host 7) catalogue).host.slot = .ready { status := .done, tag := 7, data :=
      [0x06, 0x96, 1, 2, 0, 94, 0, 0, 0, 0, 0, 0, 0, 0, 0, 0, 0, 0, 0, 0, 0, 0, 0, 0, 0x00, 0xBB, 0x80, 1, 200, 50, 1] } := by
  decide

theorem witness_SetupDeviceChangesTheTimeBase :
    executing (asked .host (.setupDevice 150000 4 255 1 1) catalogue) .host 7 (.setupDevice 150000 4 255 1 1) := by decide

theorem test_setup_device :
    (after (.setupDevice .host 7 150000 4 255 1 0) catalogue).time.refclk = 150000 ∧
      (after (.setupDevice .host 7 150001 4 255 1 0) catalogue).host.slot = .ready { doneOf with status := .range } ∧
      (after (.setupDevice .host 7 48000 2 200 50 1) (withCh2 lockedOnA 1)).host.slot =
        .ready { doneOf with status := .clockLocked } := by decide

theorem witness_FullResetWaitsForItsTrigger :
    executing (asked .host .resetFull catalogue) .host 7 .resetFull ∧ (asked .host .resetFull catalogue).resetLow = false ∧
      (withSlot .receiving).resetLow = false ∧ (withSlot .receiving).host.refusing = false ∧
      (withSlot .receiving).host.slot = .receiving := by decide

set_option maxRecDepth 20000 in
/-- RESET DEVICE acts at the end of its frame (R152): the host reads DONE and the full reset takes effect (R160); the channel is OFF at
once (R159); an unlisted parameter is answered RANGE (R159). -/
theorem test_reset_device_acts_at_once :
    let asks (sel : Byte) (s : State) := after (.hostCommandTransaction 0x5A (withCheck [0x03, 7, 1, sel])) s
    let t := asks 0 catalogue
    t.host.slot = .ready doneOf ∧ t.resetWaiting = true ∧ t.index = [0, 1] ∧
      (after (.hostReadResponse 4) t).host.sent.take 3 = [0x00, 0x00, 7] ∧ (after (.hostReadResponse 4) t).index = [] ∧
      ((asks 1 (withCh2 lockedOnA 1)).ch 2).acq = .off ∧ (asks 1 (withCh2 lockedOnA 1)).host.slot = .ready doneOf ∧
      (asks 2 catalogue).host.slot = .ready { doneOf with status := .range } := by decide

theorem test_full_reset_waits :
    (after (.resetDeviceFull .host 7) catalogue).index = [0, 1] ∧
      (after (.commandFrameStart .monitor) (after (.resetDeviceFull .host 7) catalogue)).index = [] := by decide

theorem witness_ChannelResetStopsEveryChannel :
    (1 : Byte) ≠ 0 ∧ executing (asked .host (.resetOther 1) (withCh2 lockedOnA 1)) .host 7 (.resetOther 1) ∧
      executing (asked .host (.resetOther 2) (withCh2 lockedOnA 1)) .host 7 (.resetOther 2) ∧
      (asked .host (.resetOther 1) (withCh2 lockedOnA 1)).channelsLawful = true ∧
      (withSlot .receiving).resetLow = false ∧ (withSlot .receiving).host.refusing = false ∧
      (withSlot .receiving).host.slot = .receiving := by decide

theorem witness_ChannelResetAnnouncesNone :
    executing (asked .host (.resetOther 1) (withCh2 lockedOnA 1)) .host 7 (.resetOther 1) ∧
      (asked .host (.resetOther 1) (withCh2 lockedOnA 1)).channelsLawful = true ∧
      (asked .host (.resetOther 1) (withCh2 lockedOnA 1)).announceLawful = true ∧
      ({ asked .host (.resetOther 1) (withCh2 lockedOnA 1) with
        link := some { channel := 0, announced := Announced.nothing, seq := 4, frame := 0, elapsed := 9 } } : State).link ≠
        none := by decide

theorem test_channel_reset :
    let t := after (.resetDeviceChannels .host 7 1) (withCh2 lockedOnA 1)
    (t.ch 2).acq = .off ∧ (t.ch 2).request = some (.release .none) ∧ (t.ann 2).seq = 1 ∧ (t.ann 2).entry = none ∧
      (t.slot 0).count = 1 := by decide

/-! ## Reads of the catalogue -/

theorem witness_ReadRecordAndListRecords :
    portGranted (asked .host (.readRecord ⟨0, 0⟩) catalogue) .host ∧
      executing (asked .host (.readRecord ⟨0, 0⟩) catalogue) .host 7 (.readRecord ⟨0, 0⟩) ∧
      portGranted (asked .host .listStart catalogue) .host ∧ executing (asked .host .listStart catalogue) .host 7 .listStart ∧
      (255 : Byte) ≠ 0 ∧ portGranted (asked .host (.listAfter 255 0 0 1) catalogue) .host ∧
      executing (asked .host (.listAfter 255 0 0 1) catalogue) .host 7 (.listAfter 255 0 0 1) := by decide

/-- The body of A as R165 lays it out, and the answers of R6. -/
theorem test_read_record :
    (after (.readRecord .host 7 ⟨0, 0⟩) catalogue).host.slot = .ready { status := .done, tag := 7, data :=
      [0, 0, 1, 0, 0, 0xFF, 0x23, 0x06, 0x40, 0, 6, 0x02, 0x71, 2, 2, 0, 0, 0, 0, 40, 1, 0, 0, 1, 1] } ∧
      (after (.readRecord .host 7 ⟨96, 0⟩) catalogue).host.slot = .ready { doneOf with status := .badHandle } ∧
      (after (.readRecord .host 7 ⟨95, 0⟩) catalogue).host.slot = .ready { doneOf with status := .stale } := by decide

/-- The walk of chapter 1's example: both records, and then B alone after A's key. -/
theorem test_list_records :
    (after (.listRecordsStart .host 7) catalogue).host.slot = .ready { status := .done, tag := 7, data :=
      [2, 1, 0, 0, 0, 0x06, 0x40, 0x02, 0x71, 2, 1, 0, 0, 0x06, 0x54, 0x02, 0x58, 1] } ∧
      (after (.listRecordsAfterKey .host 7 1 1600 625 2) catalogue).host.slot = .ready { status := .done, tag := 7, data :=
        [1, 1, 1, 0, 0, 0x06, 0x54, 0x02, 0x58, 1] } := by decide

theorem witness_FindFormatNamesTheSelectedRecord :
    let cmd : Cmd := .findFormat 1601 625 2 5 2 2 0xFF
    executing (asked .host cmd catalogue) .host 7 cmd ∧ portGranted (asked .host cmd catalogue) .host ∧
      (asked .host cmd catalogue).indexLaw = true ∧
      catalogue.select (presented 1601 625 2 5 2 2)
        (catalogue.index.filter fun n => (catalogue.slot n).acquires (presented 1601 625 2 5 2 2) 0xFF) = some 0 := by decide

/-- A is selected for 1601, 625, INTERLACED; nothing is, one tick beyond A's tolerance of 6. -/
theorem test_find_format :
    (after (.findFormat .host 7 1601 625 2 5 2 2 0xFF) catalogue).host.slot = .ready { doneOf with data := [0, 0, 0] } ∧
      (after (.findFormat .host 7 1607 625 2 5 2 2 0xFF) catalogue).host.slot = .ready { doneOf with status := .noMatch } ∧
      (after (.findFormat .host 7 1601 625 3 5 2 2 0xFF) catalogue).host.slot = .ready { doneOf with status := .range } := by
  decide

/-! ## Editing -/

theorem witness_OpenEditOpensTheLowestFreeContext :
    portGranted (asked .host .openEditNew catalogue) .host ∧ executing (asked .host .openEditNew catalogue) .host 7 .openEditNew ∧
      (1 : Byte) ≠ 0 ∧ portGranted (asked .host (.openEdit 1 ⟨0, 0⟩) catalogue) .host ∧
      executing (asked .host (.openEdit 1 ⟨0, 0⟩) catalogue) .host 7 (.openEdit 1 ⟨0, 0⟩) := by decide

theorem test_open_edit :
    (after (.openEdit .host 7 1 ⟨0, 0⟩) catalogue).host.slot = .ready { doneOf with data := [0, 0] } ∧
      ((after (.openEdit .host 7 1 ⟨0, 0⟩) catalogue).slot 0).mark = some 0 ∧
      (after (.openEditNew .host 7) (editing none WorkBody.fresh)).host.slot = .ready { doneOf with data := [1, 0] } := by decide

theorem witness_EditCommandsActOnTheWorkingBody :
    portGranted (asked .host (.setField 0 1 1600) (editing none WorkBody.fresh)) .host ∧
      executing (asked .host (.setField 0 1 1600) (editing none WorkBody.fresh)) .host 7 (.setField 0 1 1600) ∧
      portGranted (asked .host (.clearField 0 13) (editing none WorkBody.fresh)) .host ∧
      executing (asked .host (.clearField 0 13) (editing none WorkBody.fresh)) .host 7 (.clearField 0 13) ∧
      portGranted (asked .host (.readEdit 0) (editing none WorkBody.fresh)) .host ∧
      executing (asked .host (.readEdit 0) (editing none WorkBody.fresh)) .host 7 (.readEdit 0) ∧
      portGranted (asked .host (.dropEdit 0) (editing none WorkBody.fresh)) .host ∧
      executing (asked .host (.dropEdit 0) (editing none WorkBody.fresh)) .host 7 (.dropEdit 0) := by decide

/-- LINE_TOL 2000 is above 1023 and reloads the lease all the same (chapter 2's example). -/
theorem test_set_field :
    ((after (.setField .host 7 0 2 2000) (editing none WorkBody.fresh)).edit 0).map EditContext.lease = some ⟨200, 0⟩ ∧
      (after (.setField .host 7 0 2 2000) (editing none WorkBody.fresh)).host.slot = .ready { doneOf with status := .range } ∧
      ((after (.setField .host 7 0 2 1023) (editing none WorkBody.fresh)).edit 0).map EditContext.changed = some 2 := by decide

theorem test_clear_field :
    ((after (.clearField .host 7 0 10) (editing none recordA.toWork)).edit 0).map (fun e => e.body.priority) = some 1 ∧
      ((after (.clearField .host 7 0 1) (editing none recordA.toWork)).edit 0).map (fun e => e.body.linePeriod) = some none := by
  decide

theorem test_read_and_drop_edit :
    (after (.readEdit .host 7 0) (editing (some ⟨0, 0⟩) recordA.toWork)).host.slot = .ready { status := .done, tag := 7, data :=
      [1, 0, 0, 0, 0, 0x23, 0x06, 0x40, 0, 6, 0x02, 0x71, 2, 2, 0, 0, 0, 0, 40, 1, 0, 0, 1, 1] } ∧
      ((after (.dropEdit .host 7 0) (editing (some ⟨0, 0⟩) recordA.toWork)).slot 0).mark = none ∧
      (after (.dropEdit .host 7 4) catalogue).host.slot = .ready { doneOf with status := .noEdit } := by decide

theorem witness_LeaseExpiryFreesTheContext :
    ∃ e, (editing (some ⟨0, 0⟩) recordA.toWork).edit 0 = some e := ⟨_, rfl⟩

theorem test_lease_expiry :
    (after (.leaseExpiry 0) (editing (some ⟨0, 0⟩) recordA.toWork)).edit 0 = none ∧
      (after (.leaseExpiry 0) (editing (some ⟨0, 0⟩) recordA.toWork)).hasDeviceFlag .editExpired = true := by decide

theorem witness_CommitRefusedChangesNothing :
    let s := asked .host (.commitEdit 0) (editing none WorkBody.fresh)
    executing s .host 7 (.commitEdit 0) ∧ portGranted s .host ∧ s.indexLaw = true ∧
      (openContext s 0).any (fun x => commitError s x.2 == some .inconsistent) = true ∧
      openContext (asked .host (.commitEdit 4) catalogue) 4 = none ∧
      executing (asked .host (.commitEdit 4) catalogue) .host 7 (.commitEdit 4) := by decide

/-- The working body of a record at 1610, 625, INTERLACED. -/
def recordC : Body := { recordA with linePeriod := 1610 }

theorem witness_CommitNewCreatesARecord :
    let s := asked .host (.commitEdit 0) (editing none recordC.toWork)
    executing s .host 7 (.commitEdit 0) ∧ portGranted s .host ∧ s.indexLaw = true ∧
      (openContext s 0).any (fun x => x.1 == 0 && (commitError s x.2).isNone && x.2.target.isNone &&
        x.2.body.toBody == some recordC) = true ∧
      2 < 96 ∧ (s.slot 2).state = .free ∧ ∀ m < 2, (s.slot m).state ≠ .free := by decide

theorem test_commit_new :
    (after (.commitEdit .host 7 0) (editing none recordC.toWork)).index = [0, 2, 1] ∧
      (after (.commitEdit .host 7 0) (editing none recordA.toWork)).host.slot = .ready { doneOf with status := .duplicate } := by
  decide

theorem witness_CommitAmendsTheRecord :
    let s := asked .host (.commitEdit 0) (editing (some ⟨0, 0⟩) { recordA.toWork with verifyBlock := some 20 })
    executing s .host 7 (.commitEdit 0) ∧ portGranted s .host ∧ s.indexLaw = true ∧ s.editLaw = true ∧
      (openContext s 0).any (fun x => x.1 == 0 && (commitError s x.2).isNone && x.2.target == some ⟨0, 0⟩ &&
        x.2.body.toBody == some { recordA with verifyBlock := some 20 }) = true := by decide

/-- Sequence 2: the amendment of A at revision 1, before the notices (whose order is a free value). -/
theorem test_commit_amendment :
    let t := (editing (some ⟨0, 0⟩) { recordA.toWork with verifyBlock := some 20 }).amendRecord 0 0
      { recordA with verifyBlock := some 20 }
    (t.slot 0).rev = 1 ∧ (t.slot 0).mark = none ∧ t.index = [0, 1] ∧ t.edit 0 = none := by decide

set_option maxRecDepth 20000 in
/-- Sequence 2: what the notice of that amendment marks at CH2. -/
theorem test_commit_notice :
    let s := (withCh2 lockedOnA 1).setSlot 0 { Slot.empty with state := .live, rev := 1, count := 1, body := recordA }
    let t := (s.noticeAmendment 0 2).noticeMarks 0 2
    (t.ch 2).reverify = some (recordA, 1) ∧ (t.ch 2).stale = true ∧ (t.ch 2).rematch = false := by decide

/-! ## Retirement -/

theorem witness_RetireRefusedOrFreedAtOnce :
    let s := asked .host (.retireRecord ⟨0, 0⟩) catalogue
    executing s .host 7 (.retireRecord ⟨0, 0⟩) ∧ portGranted s .host ∧ (s.record ⟨0, 0⟩).count = 0 ∧
      retireError (asked .host (.retireRecord ⟨96, 0⟩) catalogue) ⟨96, 0⟩ ≠ none := by decide

theorem test_retire_unbound :
    let t := after (.retireRecord .host 7 ⟨0, 0⟩) catalogue
    (t.slot 0).state = .free ∧ (t.slot 0).gen = 1 ∧ t.index = [1] ∧
      t.host.slot = .ready { doneOf with data := [0, 0] } := by decide

theorem witness_RetireWithBindings :
    let s := asked .host (.retireRecord ⟨0, 0⟩) (withCh2 lockedOnA 1)
    let u := asked .host (.retireRecord ⟨0, 0⟩) (withCh2 holdingA 1)
    executing s .host 7 (.retireRecord ⟨0, 0⟩) ∧ portGranted s .host ∧ s.channelsLawful = true ∧ s.catalogueLawful = true ∧
      retireError s ⟨0, 0⟩ = none ∧ 0 < (s.record ⟨0, 0⟩).count ∧ (channels.countP fun c => letsGo ⟨0, 0⟩ (s.ch c)) = 0 ∧
      executing u .host 7 (.retireRecord ⟨0, 0⟩) ∧ portGranted u .host ∧ u.channelsLawful = true ∧ u.catalogueLawful = true ∧
      retireError u ⟨0, 0⟩ = none ∧ (channels.countP fun c => letsGo ⟨0, 0⟩ (u.ch c)) = (u.record ⟨0, 0⟩).count := by decide

set_option maxRecDepth 20000 in
/-- Sequence 3: PENDING while CH2 is LOCKED on A, with CH2's rematch mark; DONE where the one binding is a hold. -/
theorem test_retire_bound :
    let t := after (.retireRecord .host 7 ⟨0, 0⟩) (withCh2 lockedOnA 1)
    (t.slot 0).state = .retiring ∧ t.retiring = [⟨⟨0, 0⟩, ⟨50, 0⟩⟩] ∧ (t.ch 2).rematch = true ∧
      t.host.slot = .ready { status := .pending, tag := 7, data := [0, 0] } ∧
      (after (.retireRecord .host 7 ⟨0, 0⟩) (withCh2 holdingA 1)).host.slot = .ready { doneOf with data := [0, 0] } := by decide

theorem witness_LastReleaseCompletesARetirement :
    (retiringA lockedOnA).current ⟨0, 0⟩ = true ∧ (withCh2 lockedOnA 1).current ⟨0, 0⟩ = true := by decide

theorem witness_RetireTimerForcesTheRelease :
    (retiringA lockedOnA).channelsLawful = true ∧ (retiringA lockedOnA).catalogueLawful = true ∧
      ((retiringA lockedOnA).retiring.any fun e => e.handle == ⟨0, 0⟩) = true ∧
      ((retiringA lockedOnA).ch 2).binding = .holding (toA .found) ∧
      (retiringA leavingA).channelsLawful = true ∧ (retiringA leavingA).catalogueLawful = true ∧
      ((retiringA leavingA).retiring.any fun e => e.handle == ⟨0, 0⟩) = true ∧
      ((retiringA leavingA).ch 2).binding =
        .departing { handle := ⟨0, 0⟩, origin := .found, revSeen := 0, cause := .inputLoss } ∧
      ((retiringA leavingA).ch 2).request = some (.release .last) := by decide

set_option maxRecDepth 20000 in
/-- The forced variant of sequence 3. -/
theorem test_retire_timer :
    let t := after (.retireTimerExpiry ⟨0, 0⟩) (retiringA driftingFromA)
    (t.ch 2).acq = .measuring ∧ (t.ch 2).request = none ∧ t.hasFlag 2 .lockLost = true ∧ t.hasFlag 2 .bindingReleased = true ∧
      (t.slot 0).gen = 1 ∧ t.events.device = 3 := by decide

/-! ## Channel commands -/

/-- The default configuration as CONFIGURE CHANNEL carries it, with hold policy LAST and hold limit 50 (sequence 1). -/
def settingsOfCh2 : RawSettings :=
  { mode := 1, classMask := 0xFF, blockSize := 32, stabilityWindow := 4, stabilityTarget := 64, frameTarget := 3,
    marginTicks := 8, marginLines := 2, blockReleaseRun := 4, frameReleaseRun := 2, neighbourhood := 256, lineLoss := 10,
    verticalLoss := 100, holdPolicy := 1, holdPresent := 0, holdRecord := ⟨0, 0⟩, holdLimit := 50 }

theorem witness_ConfigureAndStartActOnAnOffChannel :
    executing (asked .host (.configureChannel 2 settingsOfCh2) catalogue) .host 7 (.configureChannel 2 settingsOfCh2) ∧
      executing (asked .host (.startChannel 5) catalogue) .host 7 (.startChannel 5) ∧
      (asked .host (.startChannel 5) catalogue).channelsLawful = true := by decide

theorem test_configure_channel :
    ((after (.configureChannel .host 7 2 settingsOfCh2) catalogue).ch 2).settings =
        { Settings.default with holdPolicy := .last, holdLimit := 50 } ∧
      (after (.configureChannel .host 7 2 { settingsOfCh2 with blockSize := 33 }) catalogue).host.slot =
        .ready { doneOf with status := .range } ∧
      (after (.configureChannel .host 7 6 settingsOfCh2) catalogue).host.slot = .ready { doneOf with status := .badChannel } := by
  decide

theorem test_start_channel :
    ((after (.startChannel .host 7 2) catalogue).ch 2).acq = .seeking ∧
      (after (.startChannel .host 7 2) (withCh2 lockedOnA 1)).host.slot = .ready { doneOf with status := .channelState } := by
  decide

theorem witness_StopAndRearmLetTheBindingGo :
    (asked .host (.stopChannel 2) (withCh2 lockedOnA 1)).channelsLawful = true ∧
      executing (asked .host (.stopChannel 2) (withCh2 lockedOnA 1)) .host 7 (.stopChannel 2) ∧
      (asked .host (.rearmChannel 2) (withCh2 holdingA 1)).channelsLawful = true ∧
      executing (asked .host (.rearmChannel 2) (withCh2 holdingA 1)) .host 7 (.rearmChannel 2) := by decide

theorem test_stop_and_rearm :
    ((after (.stopChannel .host 7 2) (withCh2 lockedOnA 1)).ch 2).acq = .off ∧
      ((after (.stopChannel .host 7 2) (withCh2 lockedOnA 1)).ch 2).request = some (.release .none) ∧
      ((after (.rearmChannel .host 7 2) (withCh2 holdingA 1)).ch 2).generator = none ∧
      ((after (.rearmChannel .host 7 2) (withCh2 holdingA 1)).ch 2).record.linePolarity = some .negative := by decide

theorem witness_FlushShortlistEmptiesTheList :
    executing (asked .host (.flushShortlist 2) (withCh2 lockedOnA 1)) .host 7 (.flushShortlist 2) := by decide

theorem test_flush_shortlist :
    ((after (.flushShortlist .host 7 2) (withCh2 lockedOnA 1)).ch 2).stale = true ∧
      ((after (.flushShortlist .host 7 2) (withCh2 driftingFromA 1)).ch 2).stale = false ∧
      ((after (.flushShortlist .host 7 2) (withCh2 driftingFromA 1)).ch 2).shortlist = [] := by decide

theorem witness_ChannelReadsReportTheChannel :
    executing (asked .monitor (.readChannel 2) (withCh2 lockedOnA 1)) .monitor 7 (.readChannel 2) ∧
      executing (asked .host (.readMeasurement 2) (withCh2 lockedOnA 1)) .host 7 (.readMeasurement 2) := by decide

theorem test_read_channel :
    (after (.readChannel .host 7 2) (withCh2 lockedOnA 1)).host.slot = .ready { status := .done, tag := 7, data :=
      [2, 4, 0, 1, 0, 0, 0, 1, 1, 1, 0, 0, 0, 0, 0, 0, 0, 0, 0, 0, 0, 0, 0xFF] } := by decide

theorem test_read_measurement :
    (after (.readMeasurement .host 7 2) (withCh2 lockedOnA 1)).host.slot = .ready { status := .done, tag := 7, data :=
      [2, 1, 0x06, 0x41, 0x02, 0x71, 2, 0, 5, 2, 2, 3, 64, 0, 0, 0] } := by decide

theorem witness_ForceBindingBindsAtOnce :
    let cmd : Cmd := .forceBinding 2 ⟨1, 0⟩
    executing (asked .host cmd (withCh2 lockedOnA 1)) .host 7 cmd ∧ portGranted (asked .host cmd (withCh2 lockedOnA 1)) .host := by
  decide

set_option maxRecDepth 20000 in
theorem test_force_binding :
    let t := after (.forceBinding .host 7 2 ⟨1, 0⟩) (withCh2 lockedOnA 1)
    (t.ch 2).acq = .forced ∧ (t.ch 2).bound = some ⟨1, 0⟩ ∧ (t.slot 0).count = 0 ∧ (t.slot 1).count = 1 ∧
      (t.ann 2).announced.qualifier = .forced := by decide

/-! ## Requests -/

theorem witness_MatchRequestLocksOrFindsNone :
    ((toCh2 (withCh2 matching 0)).ch 2).request = some (.acquire measuredA) ∧ channelGranted (toCh2 (withCh2 matching 0)) 2 := by
  decide

set_option maxRecDepth 20000 in
/-- Sequence 1: FOUND 0:0/0, shortlist 1:0/0, LOCKED with sequence number 1 on the link; and NONE for a source B does not fit. -/
theorem test_match :
    let t := after (.matchRequest 2) (toCh2 (withCh2 matching 0))
    (t.ch 2).acq = .locked ∧ (t.ch 2).binding = .holding (toA .found) ∧ (t.ch 2).shortlist = [⟨⟨1, 0⟩, 0⟩] ∧
      (t.slot 0).count = 1 ∧ t.hasFlag 2 .lockGained = true ∧ (t.ann 2).lastSent = some 1 ∧ t.lastSent = 2 := by decide

set_option maxRecDepth 20000 in
theorem test_match_none :
    let t := after (.matchRequest 2) ({ toCh2 (withCh2 matching 0) with index := [1] })
    (t.ch 2).acq = .unmatched ∧ (t.ch 2).binding = .none ∧ t.hasFlag 2 .unmatched = true := by decide

theorem witness_RematchAndRebuildServeABoundChannel :
    channelGranted (toCh2 (withCh2 driftingFromA 1)) 2 ∧
      ((toCh2 (withCh2 driftingFromA 1)).ch 2).request = some (.rematch measuredA) ∧
      channelGranted (toCh2 (withCh2 { lockedOnA with request := some (.rebuild 1601) } 1)) 2 ∧
      ((toCh2 (withCh2 { lockedOnA with request := some (.rebuild 1601) } 1)).ch 2).request = some (.rebuild 1601) := by decide

set_option maxRecDepth 20000 in
/-- Sequence 3: B fails on scan, and the release of A completes its retirement. -/
theorem test_rematch_released :
    let t := after (.rematchRequest 2) (toCh2 (retiringA driftingFromA))
    (t.ch 2).acq = .measuring ∧ (t.ch 2).binding = .none ∧ t.hasFlag 2 .lockLost = true ∧ t.hasFlag 2 .bindingReleased = true ∧
      (t.slot 0).state = .free ∧ t.events.device = 1 := by decide

set_option maxRecDepth 20000 in
theorem test_rematch_rebound :
    let m : Measurement := { measuredA with linePeriod := 1620, frameLines := 600, scan := some .progressive }
    let t := after (.rematchRequest 2) (toCh2 (withCh2 { driftingFromA with request := some (.rematch m) } 1))
    (t.ch 2).acq = .locked ∧ (t.ch 2).bound = some ⟨1, 0⟩ ∧ (t.slot 0).count = 0 ∧ (t.slot 1).count = 1 ∧
      t.hasFlag 2 .formatChanged = true := by decide

theorem test_shortlist_rebuild :
    let t := after (.shortlistRebuild 2) (toCh2 (withCh2 { lockedOnA with shortlist := [], request := some (.rebuild 1601) } 1))
    (t.ch 2).shortlist = [⟨⟨1, 0⟩, 0⟩] ∧ (t.ch 2).request = none := by decide

theorem witness_ReleaseRequestReleasesOrHolds :
    ((toCh2 (withCh2 leavingA 1)).ch 2).request = some (.release .last) ∧ channelGranted (toCh2 (withCh2 leavingA 1)) 2 ∧
      ((toCh2 (withCh2 leavingA 1)).ch 2).lawful = true := by decide

set_option maxRecDepth 20000 in
/-- Sequence 4: HOLD 0:0/0 with the count kept, the generator RUNNING, the hold limit loaded and HOLD_STARTED set. -/
theorem test_release_last :
    let t := after (.releaseRequest 2) (toCh2 (withCh2 leavingA 1))
    (t.ch 2).binding = .holding (toA .hold) ∧ (t.slot 0).count = 1 ∧ (t.ch 2).holdLimit = some ⟨50, 0⟩ ∧
      (t.ch 2).subLm = true ∧ (t.ch 2).subVm = true ∧ t.hasFlag 2 .holdStarted = true ∧ t.hasFlag 2 .lockLost = false ∧
      (t.ann 2).announced.qualifier = .substitute := by decide

set_option maxRecDepth 20000 in
theorem test_release_none :
    let t := after (.releaseRequest 2) (toCh2 (withCh2 { leavingA with request := some (.release .none) } 1))
    (t.ch 2).binding = .none ∧ (t.slot 0).count = 0 ∧ t.hasFlag 2 .lockLost = true := by decide

/-! ## The front end and the acquisition machine -/

theorem witness_CyclesAndPolarityChanges :
    let ch := { lockedOnA with front := { frontOfA with lmOpposite := 4 } }
    detectorOf ch .lm = (some .negative, 4, 4) ∧ ch.acq ≠ .off ∧ ch.lawful = true ∧
      detectorOf lockedOnA .vm = (some .negative, 0, 2) := by decide

/-- R63: high for less than half is POSITIVE, exactly half decides nothing; R65: three opposite cycles count 3. -/
theorem test_cycles :
    let s := State.reset.setCh 2 { Channel.initial with acq := .seeking }
    ((after (.lmCycleComplete 2 1 4) s).ch 2).front.lmPolarity = some .positive ∧
      ((after (.lmCycleComplete 2 2 4) s).ch 2).front.lmPolarity = none ∧
      ((after (.vmCycleComplete 2 3 4) s).ch 2).record.verticalPolarity = some .negative := by decide

/-- Section 4.7: LM inverted while CH2 is LOCKED. -/
theorem test_polarity_change :
    let t := after (.polarityChange 2 .lm) (withCh2 { lockedOnA with front := { frontOfA with lmOpposite := 4 } } 1)
    (t.ch 2).acq = .seeking ∧ t.hasFlag 2 .lockLost = true ∧ (t.ch 2).record.linePolarity = some .positive ∧
      (t.ch 2).record.verticalPolarity = some .negative ∧ (t.ch 2).record.valid = false := by decide

/-- R66: a period of 64 ticks is in range and one of 63 is not. Section 4.7: 51250 / 32 is 1601. -/
theorem test_line_marker :
    let s := withCh2 { matching with front := { frontOfA with block := .running 32 31 49649 } } 0
    ((after (.lineMarker 2 1601) s).ch 2).front.blockDone = some 1601 ∧
      ((after (.lineMarker 2 64) s).ch 2).front.prevPeriod = some 64 ∧
      ((after (.lineMarker 2 63) s).ch 2).front.prevPeriod = none := by decide

theorem test_long_line_period :
    let t := after (.longLinePeriod 2) (withCh2 lockedOnA 1)
    (t.ch 2).record.outBlockRun = 1 ∧ (t.ch 2).front.period = none := by decide

/-- A LOCKED channel with the rematch mark of a retire notice that its release run takes to DRIFTING posts the rematch, which clears the
mark (R105). -/
theorem test_drift_clears_the_rematch_mark :
    let ch := { lockedOnA with record := { recordOfA with outBlockRun := 3 }, rematch := true }
    let t := after (.longLinePeriod 2) (withCh2 ch 1)
    (t.ch 2).acq = .drifting ∧ (t.ch 2).rematch = false ∧ (t.ch 2).request = some (.rematch measuredA) := by decide

theorem witness_BlockBoundaryFollowsTheState :
    let s := withCh2 { lockedOnA with front := { frontOfA with blockDone := some 1601 } } 1
    let u := withCh2 { matching with front := { frontOfA with blockDone := some 1601 } } 0
    (s.ch 2).front.blockDone = some 1601 ∧ (s.ch 2).acq = .locked ∧ (s.ch 2).binding = .holding (toA .found) ∧
      (u.ch 2).front.blockDone = some 1601 ∧ (u.ch 2).acq ≠ .locked ∧ (catalogue.ch 2).front.blockDone = none := by decide

/-- Sequence 2: the re-verify passes, RECORD_AMENDED is set, the rebuild is posted carrying 1601. -/
theorem test_block_boundary :
    let ch := { lockedOnA with
      front := { frontOfA with blockDone := some 1601 }, stale := true
      reverify := some ({ recordA with verifyBlock := some 20 }, 1) }
    let t := after (.blockBoundary 2) (withCh2 ch 1)
    (t.ch 2).effectiveBlock = 16 ∧ (t.ch 2).request = some (.rebuild 1601) ∧ (t.ch 2).front.block = .awaitVertical ∧
      t.hasFlag 2 .recordAmended = true ∧ (t.ann 2).announced.rev = 1 := by decide

theorem witness_EffectiveBlockSize :
    lockedOnA.binding = .holding (toA .found) ∧ (toA .found).origin = .found ∧ (toA .found).body.verifyBlock = some 40 ∧
      lockedOnA.effectiveBlock = 32 ∧ lockedOnA.settings.blockSize ∈ [8, 16, 32, 64, 128] ∧ Channel.initial.binding = .none ∧ Channel.initial.effectiveBlock = 32 := by decide

/-- Intervals of 312 and 313 give 625 lines INTERLACED (R73). -/
theorem test_vertical_marker :
    let t := after (.verticalMarker 2) (withCh2 { matching with request := none, record := { recordOfA with frameRun := 2 } } 0)
    (t.ch 2).record.frameRun = 3 ∧ (t.ch 2).record.scan = some .interlaced ∧ (t.ch 2).record.frameLines = 625 ∧
      (t.ch 2).matchPosted = true := by decide

theorem test_long_vertical_interval :
    let t := after (.longVerticalInterval 2) (withCh2 { lockedOnA with front := { frontOfA with interval := some 4096 } } 1)
    (t.ch 2).record.outFrameRun = 1 ∧ (t.ch 2).front.interval = none := by decide

theorem test_sync_width :
    ((after (.syncWidthComplete 2) (withCh2 { matching with front := { frontOfA with width := some 4 } } 0)).ch 2).record.syncWidth =
      4 := by decide

theorem witness_LossTimersAndTheHoldLimit :
    ((withCh2 lockedOnA 1).ch 2).lawful = true ∧ ((withCh2 lockedOnA 1).ch 2).lineLoss ≠ none ∧
      ((withCh2 lockedOnA 1).ch 2).verticalLoss ≠ none ∧ ((withCh2 lockedOnA 1).ch 2).holdLimit = none ∧
      ((withCh2 holdingA 1).ch 2).lawful = true ∧ ((withCh2 holdingA 1).ch 2).holdLimit ≠ none ∧
      ((withCh2 holdingA 1).ch 2).lineLoss = none ∧ ((withCh2 holdingA 1).ch 2).verticalLoss = none ∧
      ((withCh2 holdingA 1).ch 2).binding = .holding (toA .hold) := by decide

/-- Sequence 4: the line-loss timer expires at a channel LOCKED on A with hold policy LAST. -/
theorem test_line_loss :
    let t := after (.lineLossExpiry 2) (withCh2 { lockedOnA with settings := { Settings.default with holdPolicy := .last } } 1)
    (t.ch 2).acq = .seeking ∧ (t.ch 2).request = some (.release .last) ∧ t.hasFlag 2 .inputLost = true ∧
      (t.ann 2).announced = Announced.nothing ∧ (t.slot 0).count = 1 := by decide

theorem test_vertical_loss :
    let t := after (.verticalLossExpiry 2) (withCh2 { lockedOnA with record := { recordOfA with outFrameRun := 1 } } 1)
    (t.ch 2).acq = .drifting ∧ (t.ch 2).request = some (.rematch measuredA) := by decide

theorem test_hold_limit :
    let t := after (.holdLimitExpiry 2) (withCh2 holdingA 1)
    (t.ch 2).generator = none ∧ (t.ch 2).request = some (.release .none) ∧ t.hasFlag 2 .holdEnded = true := by decide

/-! ## Substitute timing, announcements and events -/

theorem witness_SubstituteGeneratorFollowsItsFrame :
    ((withCh2 holdingA 1).ch 2).generator = some generatorOfA ∧ ((withCh2 holdingA 1).ch 2).binding = .holding (toA .hold) ∧
      (catalogue.ch 2).generator = none := by decide

/-- Section 7.6: A's hold drives POSITIVE markers, SUB_LM for 100 ticks of each line and SUB_VM for 4 lines. -/
theorem test_substitute_frame :
    let s := after (.substituteFrameStart 2) (withCh2 holdingA 1)
    let u := after (.subLmPulseEnd 2) s
    let v := after (.substituteLine 2) u
    (s.ch 2).subLm = true ∧ (s.ch 2).subVm = true ∧ (u.ch 2).subLm = false ∧ (u.ch 2).subVm = true ∧
      (u.ch 2).generator.map Generator.tick = some 100 ∧ (v.ch 2).subLm = true ∧ (v.ch 2).subVm = true := by decide

theorem test_substitute_pulse_of_four_lines :
    let g : Generator := { generatorOfA with phase := .generating, line := 3 }
    ((after (.substituteLine 2) (withCh2 { holdingA with generator := some g, subVm := true } 1)).ch 2).subVm = false := by decide

theorem test_announce_frame_complete :
    let a := (toA .found).announce .locked
    let s := { State.reset.setAnn 2 { State.reset.ann 2 with entry := some (a, 5) } with
      link := some { channel := 2, announced := a, seq := 4, frame := 0, elapsed := 320 }, lastSent := 2 }
    let t := after .announceFrameComplete s
    t.link.map Sending.seq = some 5 ∧ t.linkRest = 4 ∧ t.anFrm = false ∧ (t.ann 2).entry = none ∧
      (t.ann 2).lastSent = some 5 := by decide

/-- A completion taken first, with nothing pending, and the announcement in the same REFCLK period: its frame begins at once, and AN_FRM
stays low for one AN_CLK period before its first bit (R144). -/
theorem test_announcement_after_a_completion :
    let s := { withCh2 lockedOnA 1 with
      link := some { channel := 0, announced := Announced.nothing, seq := 4, frame := 0, elapsed := 320 } }
    let t := after (.lineLossExpiry 2) (after .announceFrameComplete s)
    t.link.map Sending.channel = some 2 ∧ t.anFrm = false ∧ t.clockEdge.clockEdge.clockEdge.anFrm = false ∧
      t.clockEdge.clockEdge.clockEdge.clockEdge.anFrm = true := by decide

theorem witness_AnnouncementFrameFields :
    let s := { State.reset with
      link := some { channel := 0, announced := Announced.nothing, seq := 4, frame := 0, elapsed := 319 } }
    State.reset.link = none ∧ s.link.isSome = true ∧ s.linkRest = 0 ∧ 0 < ({ s with linkRest := 4 } : State).linkRest := by decide

/-- No channel flag named. -/
def noFlags : ChannelMaps := #v[0, 0, 0, 0, 0, 0]

theorem witness_EventCommandsAndTheInterruptLine :
    executing (asked .host .readEvents catalogue) .host 7 .readEvents ∧
      executing (asked .host (.clearEvents noFlags 7) catalogue) .host 7 (.clearEvents noFlags 7) ∧
      executing (asked .host (.setEventMasks noFlags 7 1) catalogue) .host 7 (.setEventMasks noFlags 7 1) ∧
      flagTable[0]? = some .lockGained ∧ flagTable[8]? = some .holdEnded ∧ deviceFlagTable[2]? = some .editExpired := by decide

/-- CH2's LOCK_LOST (bit 1) enabled and set asserts nIRQ; its clearing, or the pin disable, raises it (section 10.7). -/
theorem test_events :
    let s := after (.setEventMasks .host 7 #v[0, 0, 2, 0, 0, 0] 0 0) (catalogue.setFlag 2 .lockLost)
    let u := s.setPort .host PortState.initial
    s.irqAsserted = true ∧ (after (.clearEvents .host 7 #v[0, 0, 2, 0, 0, 0] 0) u).irqAsserted = false ∧
      (after (.setEventMasks .host 7 #v[0, 0, 2, 0, 0, 0] 0 1) u).irqAsserted = false ∧
      (after (.clearEvents .host 7 noFlags 8) u).host.slot = .ready { doneOf with status := .range } := by decide

theorem test_read_events :
    (after (.readEvents .host 7) (catalogue.setFlag 5 .holdEnded)).host.slot = .ready { status := .done, tag := 7, data :=
      [0, 0, 0, 0, 0, 0, 0, 0, 0, 0, 1, 0, 0, 0, 0, 0, 0, 0, 0, 0, 0, 0, 0, 0, 0, 0, 0] } := by decide

end Sys2Proof.Tests
end

