-- ==== Sys2Proof/Proofs/Editing.lean ====
section
/-! PROOFS. The editing context that goes FREE: its frame, and the lease expiry (R9, R31, R37, R38). -/

namespace Sys2Proof.Machine

open Sys2Proof.Claims

section Rules

variable (s : State)

/-! ### Device flags -/

/-- No two device flags share a bit (R164). -/
theorem DeviceFlag.bit_inj {f g : DeviceFlag} : f.bit = g.bit ↔ f = g := by
  cases f <;> cases g <;> decide

/-- Every device flag has its bit in the three that R164 gives them. -/
theorem DeviceFlag.bit_lt (f : DeviceFlag) : f.bit < 3 := by
  cases f <;> decide

/-- Setting a device flag sets it and keeps the other two (R169). -/
@[simp] theorem State.hasDeviceFlag_setDeviceFlag (f g : DeviceFlag) :
    (s.setDeviceFlag f).hasDeviceFlag g = (s.hasDeviceFlag g || decide (f = g)) := by
  simp [State.hasDeviceFlag, State.setDeviceFlag, DeviceFlag.bit_inj, f.bit_lt]

/-- EDIT_EXPIRED is bit 2 of the device flags (R164). -/
theorem State.setDeviceFlag_editExpired :
    s.setDeviceFlag .editExpired = { s with events := { s.events with device := s.events.device ||| 0x4 } } := rfl

/-! ### A context gone FREE (R9) -/

/-- The model frees a context as the rules do. -/
theorem State.freeContextOf_eq_contextFreed (id : Fin 4) (e : EditContext) : s.freeContextOf id e = contextFreed s id e := by
  unfold State.freeContextOf contextFreed
  cases e.target with
  | none => rfl
  | some h => rfl

/-- The freed context is FREE: its working body and changed-field set are discarded. -/
@[simp] theorem State.edit_contextFreed_same (id : Fin 4) (e : EditContext) : (contextFreed s id e).edit id = none := by
  unfold contextFreed
  cases e.target with
  | none => exact s.edit_setEdit_same id none
  | some h => exact (s.setSlot _ _).edit_setEdit_same id none

/-- Freeing one context keeps every other, also where the freed one's edit mark was cleared. -/
theorem State.edit_contextFreed_ne (id k : Fin 4) (e : EditContext) (hk : k ≠ id) : (contextFreed s id e).edit k = s.edit k := by
  unfold contextFreed
  cases e.target with
  | none => exact s.edit_setEdit_ne id k none hk
  | some h => rw [State.edit_setEdit_ne _ id k none hk, State.edit_setSlot]

/-- Freeing a context leaves the event unit alone. -/
@[simp] theorem State.contextFreed_events (id : Fin 4) (e : EditContext) : (contextFreed s id e).events = s.events := by
  unfold contextFreed
  cases e.target with
  | none => rfl
  | some h => rfl

/-! ### The lease expiry (R38) -/

/-- At an OPEN context the row frees it and sets EDIT_EXPIRED. -/
theorem exec_leaseExpiry_of_open (id : Fin 4) (e : EditContext) (ho : s.edit id = some e) :
    exec (.leaseExpiry id) s = .next ((contextFreed s id e).setDeviceFlag .editExpired) := by
  have hexec : exec (.leaseExpiry id) s = execLeaseExpiry id s := rfl
  simp only [hexec, execLeaseExpiry, ho, State.freeContextOf_eq_contextFreed]

end Rules

/-- Settles O36: the next state is `contextFreed` with EDIT_EXPIRED set, and the rules above say what that holds. -/
theorem leaseExpiryFreesTheContext : Obligations.LeaseExpiryFreesTheContext := by
  intro id e s ho
  refine ⟨_, exec_leaseExpiry_of_open s id e ho, ?freed, ?others, ?flag, ?nextState⟩
  case freed => rw [State.edit_setDeviceFlag, State.edit_contextFreed_same]
  case others =>
    intro k hk
    rw [State.edit_setDeviceFlag, State.edit_contextFreed_ne s id k e hk]
  case flag => simp only [State.hasDeviceFlag_setDeviceFlag, decide_true, Bool.or_true]
  case nextState => rw [State.setDeviceFlag_editExpired, State.contextFreed_events]

end Sys2Proof.Machine
end

section
/-! PROOFS. The commands that act on one channel's engine: CONFIGURE CHANNEL, START CHANNEL and FLUSH SHORTLIST (R80, R83, R103),
with what the channel laws say of an OFF channel. -/

namespace Sys2Proof.Machine

open Sys2Proof.Claims

/-! ### The laws of a channel apart -/

/-- The six laws of a channel apart. -/
theorem Channel.lawful_iff (ch : Channel) :
    ch.lawful = true ↔ ch.bindingLaw = true ∧ ch.requestLaw = true ∧ ch.timerLaw = true ∧ ch.markLaw = true ∧
      ch.offLaw = true ∧ ch.pinLaw = true := by
  simp only [Channel.lawful, Bool.and_eq_true, and_assoc]

/-- The laws of the channels are those of each channel. -/
theorem State.channelsLawful_iff (s : State) : s.channelsLawful = true ↔ ∀ c, (s.ch c).lawful = true := by
  simp only [State.channelsLawful, List.all_eq_true, Vector.mem_toList_iff, Vector.mem_iff_getElem, State.ch]
  constructor
  · intro h c
    exact h _ ⟨c.val, c.isLt, rfl⟩
  · rintro h _ ⟨i, hi, rfl⟩
    exact h ⟨i, hi⟩

/-- The vertical-loss timer runs in LOCKED alone (R91). -/
theorem Channel.verticalLoss_isSome_iff {ch : Channel} (hl : ch.timerLaw = true) :
    ch.verticalLoss.isSome = true ↔ ch.acq = .locked := by
  simp only [Channel.timerLaw, Bool.and_eq_true, beq_iff_eq] at hl
  obtain ⟨⟨hvertical, -⟩, -⟩ := hl
  rw [hvertical, beq_iff_eq]

/-- An OFF channel has no holding binding (R82, R109). -/
theorem Channel.holding_of_off {ch : Channel} (hl : ch.bindingLaw = true) (ho : ch.acq = .off) : ch.holding = none := by
  unfold Channel.holding
  split
  next b hb =>
    simp only [Channel.bindingLaw, hb, ho] at hl
    cases hor : b.origin <;> simp [hor] at hl
  next => rfl

/-- A lawful OFF channel stands cleared, so that START CHANNEL's clearing changes only its state (R83, R101). -/
theorem Channel.started_of_off {ch : Channel} (hl : ch.lawful = true) (ho : ch.acq = .off) :
    { ch.clearMarks with
      acq := .seeking, record := MeasureRecord.cleared, front := FrontEnd.cleared, lineLoss := none, verticalLoss := none } =
    { ch with acq := .seeking } := by
  obtain ⟨hbinding, -, htimer, hmark, hoff, -⟩ := ch.lawful_iff.1 hl
  have hvertical : ch.verticalLoss = none := by
    cases hv : ch.verticalLoss with
    | none => rfl
    | some t => simpa [hv, ho] using Channel.verticalLoss_isSome_iff htimer
  have hline : ch.lineLoss = none := by
    cases hv : ch.lineLoss with
    | none => rfl
    | some t => simp [Channel.timerLaw, hv, ho] at htimer
  have hreverify : ch.reverify = none := by simpa [Channel.markLaw, Channel.holding_of_off hbinding ho] using hmark
  have hcleared : (((ch.record = MeasureRecord.cleared ∧ ch.front = FrontEnd.cleared) ∧ ch.shortlist = []) ∧
      ch.stale = false) ∧ ch.rematch = false := by simpa [Channel.offLaw, ho] using hoff
  obtain ⟨⟨⟨⟨hrecord, hfront⟩, -⟩, hstale⟩, hrematch⟩ := hcleared
  simp only [Channel.clearMarks, hvertical, hline, hreverify, hrecord, hfront, hstale, hrematch]

/-! ### A channel command taken (R152) -/

section Rules

variable (s : State)

/-- A channel command in EXECUTING is answered by the engine of the channel it names, and BAD_CHANNEL above 5 (R152). -/
theorem State.command_withChannel (p : Port) (tag channel : Byte) (cmd : Cmd) (serve : Ch → State → State × Reply)
    (hx : executing s p tag cmd) (hc : cmd.byController = false) :
    s.command p tag cmd (fun s => s.withChannel channel serve) =
      onChannel p tag channel s fun c => answered (serve c s).1 p tag (serve c s).2.status (serve c s).2.data := by
  have htake : s.mayTake p cmd = true := by simp [State.mayTake, hc]
  rw [s.command_executing p tag cmd _ hx, s.take_executing p tag cmd _ hx htake, hc]
  unfold State.withChannel onChannel
  split <;> rfl

/-! ### FLUSH SHORTLIST (R103) -/

/-- A rematch that searches the empty shortlist selects nothing (R53, R103). -/
theorem State.quickSearch_nil (m : Measurement) (classMask : Byte) : s.quickSearch m classMask [] = none := by
  simp [State.quickSearch, State.select]

/-- FLUSH SHORTLIST's stale mark: set in LOCKED, left elsewhere (R103). -/
theorem stale_or_locked (stale : Bool) (acq : Acq) :
    (stale || acq == .locked) = if acq = .locked then true else stale := by
  by_cases hl : acq = .locked
  · simp [hl]
  · simp [hl, beq_false_of_ne hl]

end Rules

/-- Settles O46: the row is the engine's answer, which differs from the rule's only in how the stale mark is written. -/
theorem flushShortlistEmptiesTheList : Obligations.FlushShortlistEmptiesTheList := by
  intro p tag channel s hx
  refine ⟨?row, fun t m k => t.quickSearch_nil m k, rfl⟩
  case row =>
    have hexec : exec (.flushShortlist p tag channel) s = execFlushShortlist p tag channel s := rfl
    rw [hexec, execFlushShortlist, s.command_withChannel p tag channel _ _ hx rfl]
    simp only [State.serveFlush, stale_or_locked, flushNext, Reply.of]

/-! ### The settings of CONFIGURE CHANNEL (R79, R80, R164) -/

/-- A mode byte is 1 or 2 (R164). -/
theorem modeOf_byte (b : Byte) :
    modeOf b.toNat = if b = 1 ∨ b = 2 then some (if b = 1 then .track else .oneShot) else none := by
  revert b; decide

/-- A hold policy byte is 0, 1 or 2 (R164). -/
theorem holdPolicyOf_byte (b : Byte) :
    holdPolicyOf b.toNat =
      if b.toNat ≤ 2 then some (if b = 0 then .none else if b = 1 then .last else .fixed) else none := by
  revert b; decide

/-- The presence byte of the hold record is 0 or 1 (R164). -/
theorem holdRecordOf_byte (b : Byte) (h : Handle) :
    holdRecordOf b h = if b.toNat ≤ 1 then some (if b = 1 then some h else none) else none := by
  have hone : b = 1 ↔ b.toNat = 1 := BitVec.toNat_eq
  rw [if_congr hone rfl rfl]
  unfold holdRecordOf
  split
  next h0 => rw [h0]; rfl
  next h1 => rw [h1]; rfl
  next h0 h1 =>
    have habove : ¬ b.toNat ≤ 1 := by intro hle; interval_cases hb : b.toNat <;> contradiction
    rw [if_neg habove]

/-- A value taken where a check passes, and used: the check guards what it is used for. -/
theorem ite_some_bind {α β : Type} (p : Prop) [Decidable p] (a : α) (f : α → Option β) :
    ((if p then some a else none) >>= f) = if p then f a else none := by split <;> rfl

/-- The checks of CONFIGURE CHANNEL, one after another, are R80's range check and give R79's sixteen settings. -/
theorem settingsOf_eq (r : RawSettings) :
    settingsOf r = if settingsAccepted r then some (settingsGiven r) else none := by
  have htarget : r.stabilityTarget.toNat ≤ 255 := Nat.le_of_lt_succ r.stabilityTarget.isLt
  have hline : r.lineLoss.toNat ≤ 255 := Nat.le_of_lt_succ r.lineLoss.isLt
  have hvertical : r.verticalLoss.toNat ≤ 255 := Nat.le_of_lt_succ r.verticalLoss.isLt
  simp only [settingsOf, within, modeOf_byte, holdPolicyOf_byte, holdRecordOf_byte, ite_some_bind]
  unfold settingsAccepted
  simp [htarget, hline, hvertical, blockSizeOk, settingsGiven, ite_and, and_assoc]

/-! ### CONFIGURE CHANNEL and START CHANNEL (R80, R83) -/

section Rules

variable (p : Port) (tag channel : Byte) (s : State)

/-- CONFIGURE CHANNEL taken follows R80. -/
theorem exec_configureChannel_executing (r : RawSettings) (hx : executing s p tag (.configureChannel channel r)) :
    exec (.configureChannel p tag channel r) s = .next (configureNext p tag channel r s) := by
  have hexec : exec (.configureChannel p tag channel r) s = execConfigureChannel p tag channel r s := rfl
  rw [hexec, execConfigureChannel, s.command_withChannel p tag channel _ _ hx rfl]
  refine congrArg Host.Outcome.next (congrArg (onChannel p tag channel s) (funext fun c => ?_))
  unfold State.serveConfigure
  by_cases ho : (s.ch c).acq = .off
  · by_cases ha : settingsAccepted r = true
    · simp [ho, ha, settingsOf_eq, Reply.of]
    · simp [ho, ha, settingsOf_eq, Reply.of]
  · simp [ho, Reply.of]

/-- START CHANNEL taken follows R83. -/
theorem exec_startChannel_executing (hx : executing s p tag (.startChannel channel)) (hl : s.channelsLawful = true) :
    exec (.startChannel p tag channel) s = .next (startNext p tag channel s) := by
  have hexec : exec (.startChannel p tag channel) s = execStartChannel p tag channel s := rfl
  rw [hexec, execStartChannel, s.command_withChannel p tag channel _ _ hx rfl]
  refine congrArg Host.Outcome.next (congrArg (onChannel p tag channel s) (funext fun c => ?_))
  unfold State.serveStart
  by_cases ho : (s.ch c).acq = .off
  · simp [ho, Channel.started_of_off (s.channelsLawful_iff.1 hl c) ho, Reply.of]
  · simp [ho, Reply.of]

end Rules

/-- Settles O44, from the two rows. -/
theorem configureAndStartActOnAnOffChannel : Obligations.ConfigureAndStartActOnAnOffChannel :=
  fun p tag channel s =>
    ⟨fun r hx => exec_configureChannel_executing p tag channel s r hx,
      fun hx hl => exec_startChannel_executing p tag channel s hx hl⟩

end Sys2Proof.Machine
end

section
/-! PROOFS. The loss timers and the hold limit (R91, R98, R99, R129, R131, R136), with the model's channel transitions in the rules'
words. -/

namespace Sys2Proof.Machine

open Sys2Proof.Claims

/-! ### The model's channel transitions in the rules' words -/

section Transitions

variable {ch : Channel}

/-- The inactive level of a pin is high for NEGATIVE (R133). -/
theorem Polarity.not_active (p : Polarity) : (!p.active) = (p == .negative) := by cases p <;> rfl

/-- The end of a hold at the generator is R138's. -/
theorem Channel.endHold_eq (ch : Channel) : ch.endHold = holdEnded ch := by
  simp only [Channel.endHold, holdEnded, Polarity.not_active]

/-- Entry to SEEKING is R78's. -/
theorem Channel.enterSeeking_eq (ch : Channel) : ch.enterSeeking = seeking ch := rfl

/-- Entry to DRIFTING is R94's. -/
theorem Channel.enterDrifting_eq (ch : Channel) : ch.enterDrifting = drifting ch := by
  unfold Channel.enterDrifting drifting
  cases ch.request <;> rfl

/-- A holding binding departs as R82 says. -/
theorem Channel.depart_holding {b : Binding} (hb : ch.binding = .holding b) (cause : ReleaseCause) (hold : HoldOption) :
    ch.depart cause hold = Claims.departed ch b cause hold := by
  simp only [Channel.depart, hb, Claims.departed]

/-- A withdrawal replaces nothing but the request (R44). -/
theorem Channel.withdraw_eq_update (ch : Channel) : ch.withdraw = { ch with request := ch.withdraw.request } := by
  unfold Channel.withdraw; split <;> rfl

/-- A posted release outlasts a withdrawal (R44). -/
theorem Channel.withdraw_of_release {hold : HoldOption} (hr : ch.request = some (.release hold)) : ch.withdraw = ch := by
  simp only [Channel.withdraw, hr]

/-- Every other request is withdrawn (R44). -/
theorem Channel.withdraw_of_not_release (hr : ∀ hold, ch.request ≠ some (.release hold)) :
    ch.withdraw = { ch with request := none } := by
  unfold Channel.withdraw
  split
  next hold h => exact absurd h (hr hold)
  next => rfl

/-- A holding binding has no release posted (R82). -/
theorem Channel.request_ne_release_of_holding {b : Binding} (hl : ch.bindingLaw = true) (hb : ch.binding = .holding b)
    (hold : HoldOption) : ch.request ≠ some (.release hold) := by
  intro hr
  simp [Channel.bindingLaw, hb, Channel.releasePosted, hr] at hl

/-! ### Input loss at the channel (R99, R129, R131) -/

/-- A holding binding departs with the hold option. -/
theorem Channel.loseInput_holding {b : Binding} (hb : ch.binding = .holding b)
    (hr : ∀ hold, ch.request ≠ some (.release hold)) : ch.loseInput = lost ch := by
  unfold Channel.loseInput lost
  simp only [Channel.withdraw_of_not_release hr, Channel.holding, hb, Channel.endHold_eq]
  rfl

/-- Without a holding binding a posted release stays, and FIXED posts one where none stands. -/
theorem Channel.loseInput_not_holding (hb : ch.holding = none) : ch.loseInput = lost ch := by
  have hb' : ({ ch with request := none } : Channel).holding = none := hb
  unfold Channel.loseInput lost
  split
  next b h => simp [Channel.holding, h] at hb
  next =>
    split
    next hold _ hr =>
      simp only [Channel.withdraw_of_release hr, hr, Channel.endHold_eq]
      rfl
    next hfixed hr =>
      simp only [Channel.withdraw_of_not_release hr, hb', hfixed, Channel.endHold_eq]
      rfl
    next hr hfixed =>
      simp only [Channel.withdraw_of_not_release hr, hb', if_neg hfixed, Channel.endHold_eq]
      rfl

/-- Input loss at a lawful channel is R99's and R131's. -/
theorem Channel.loseInput_eq (hl : ch.bindingLaw = true) : ch.loseInput = lost ch := by
  cases hb : ch.binding with
  | holding b => exact Channel.loseInput_holding hb (Channel.request_ne_release_of_holding hl hb)
  | none => exact Channel.loseInput_not_holding (by simp only [Channel.holding, hb])
  | departing d => exact Channel.loseInput_not_holding (by simp only [Channel.holding, hb])

/-- The states that watch their input are R98's four. -/
theorem Acq.watches_iff (a : Acq) :
    a.watches = true ↔ a = .measuring ∨ a = .unmatched ∨ a = .locked ∨ a = .drifting := by
  cases a <;> decide

/-! ### The hold limit at the channel (R136) -/

/-- A held channel's binding departs quietly of its hold option; a withdrawn match of UNMATCHED leaves the rematch mark. -/
theorem Channel.limitHold_eq {b : Binding} (hb : ch.binding = .holding b) :
    ch.limitHold = holdEnded (Claims.departed { ch with rematch := ch.rematch || (ch.acq == .unmatched && ch.matchPosted) } b
      .holdLimit .none) := by
  unfold Channel.limitHold
  rw [ch.withdraw_eq_update, Channel.endHold_eq]
  simp only [Channel.depart, hb, Claims.departed]

end Transitions

/-! ### The three expiries -/

section Expiries

variable (c : Ch) (s : State)

/-- A channel replaced twice stands as it was replaced last. -/
theorem State.setCh_setCh (v w : Channel) : (s.setCh c v).setCh c w = s.setCh c w := by
  simp [State.setCh]

/-- Entry to DRIFTING of a channel just replaced (R94). -/
theorem State.drift_setCh (v : Channel) : (s.setCh c v).drift c = (s.setCh c (drifting v)).handOn c := by
  rw [State.drift, State.ch_setCh_same, State.setCh_setCh, Channel.enterDrifting_eq]

/-- A running line-loss timer's expiry follows R98 and R99. -/
theorem State.lineLossExpires_running (hl : (s.ch c).bindingLaw = true) (hr : (s.ch c).lineLoss ≠ none) :
    s.lineLossExpires c = lineLossNext c s := by
  unfold State.lineLossExpires lineLossNext
  simp only [Option.isSome_iff_ne_none.2 hr, if_true, Acq.watches_iff, State.inputLoss, Channel.loseInput_eq hl,
    State.setFlagIf]

/-- A running vertical-loss timer's expiry follows R91. -/
theorem State.verticalLossExpires_running (hl : (s.ch c).timerLaw = true) (hr : (s.ch c).verticalLoss ≠ none) :
    s.verticalLossExpires c = verticalLossNext c s := by
  have hrun : (s.ch c).verticalLoss.isSome = true := Option.isSome_iff_ne_none.2 hr
  have hlocked : (s.ch c).acq = .locked := (Channel.verticalLoss_isSome_iff hl).1 hrun
  unfold State.verticalLossExpires verticalLossNext outFrame
  simp only [hrun, hlocked, if_true, State.drift_setCh, Channel.frameRunReached, decide_eq_true_eq, Channel.countOutFrame,
    loadTimer]
  split
  next hreached => rw [if_neg (Nat.not_lt.2 hreached)]
  next hbelow => rw [if_pos (Nat.not_le.1 hbelow)]

/-- A running hold-limit timer's expiry follows R136. -/
theorem State.holdLimitExpires_running {b : Binding} (hr : (s.ch c).holdLimit ≠ none)
    (hb : (s.ch c).binding = .holding b) : s.holdLimitExpires c = holdLimitNext c b s := by
  unfold State.holdLimitExpires holdLimitNext
  simp only [Option.isSome_iff_ne_none.2 hr, if_true, Channel.limitHold_eq hb, Channel.matchPosted]
  rcases hq : (s.ch c).request with _ | (m | m | p | hold) <;> simp only [Bool.and_true, Bool.and_false]

end Expiries

/-- Settles O57: each expiry is that of a stopped timer or of a running one. -/
theorem lossTimersAndTheHoldLimit : Obligations.LossTimersAndTheHoldLimit := by
  intro c s hl
  obtain ⟨hbinding, -, htimer, -⟩ := (s.ch c).lawful_iff.1 hl
  refine ⟨?line, ?vertical, ?stopped, ?running⟩
  case line =>
    refine congrArg Host.Outcome.next ?_
    by_cases hr : (s.ch c).lineLoss = none
    · simp only [State.lineLossExpires, hr]; rfl
    · rw [if_neg hr]; exact s.lineLossExpires_running c hbinding hr
  case vertical =>
    refine congrArg Host.Outcome.next ?_
    by_cases hr : (s.ch c).verticalLoss = none
    · simp only [State.verticalLossExpires, hr]; rfl
    · rw [if_neg hr]; exact s.verticalLossExpires_running c htimer hr
  case stopped =>
    intro hr
    refine congrArg Host.Outcome.next ?_
    simp only [State.holdLimitExpires, hr]; rfl
  case running =>
    intro b hr hb
    exact congrArg Host.Outcome.next (s.holdLimitExpires_running c hr hb)

end Sys2Proof.Machine
end

section
/-! PROOFS. The serializer (R107, R140, R141, R143, R147): the hand-on and the rotation in the rules' words, the announce law of
each channel apart, and what a hand-on, a frame's beginning and a channel reset make of it. -/

namespace Sys2Proof.Machine

open Sys2Proof.Claims

/-! ### The hand-on and the rotation in the rules' words (R107, R141, R143) -/

section Rotation

variable (s : State)

/-- The state a channel announces is R107's. -/
theorem Channel.announced_eq (ch : Channel) : ch.announced = announcedOf ch := by
  unfold Channel.announced announcedOf qualifierOf
  cases ch.binding with
  | none => rfl
  | departing d => rfl
  | holding b => cases ch.acq <;> cases ch.generator <;> rfl

/-- The beginning of a frame is R143's. -/
theorem State.beginFrame_eq : s.beginFrame = sending s := by
  have hnext : s.nextToSend = (after s.lastSent).find? fun c => (s.ann c).entry.isSome := rfl
  simp only [State.beginFrame, sending, Bool.and_eq_true, ← hnext]
  cases s.nextToSend with
  | none => rfl
  | some c =>
    dsimp only
    cases (s.ann c).entry <;> rfl

/-- A hand-on is R141's. -/
theorem State.handOn_eq (c : Ch) : s.handOn c = handedOn s c (announcedOf (s.ch c)) := by
  unfold handedOn
  rw [← Channel.announced_eq]
  split
  next hsame => exact s.handOn_same c hsame
  next hdiffers => rw [s.handOn_differs c hdiffers, State.beginFrame_eq]

/-- A frame begins for a channel that has an entry, or nothing changes (R143). -/
theorem State.beginFrame_cases :
    s.beginFrame = s ∨ ∃ c e, (s.ann c).entry = some e ∧ s.beginFrame = begun s c e := by
  rw [State.beginFrame_eq]
  unfold sending
  split
  next =>
    split
    next => exact .inl rfl
    next c _ =>
      split
      next => exact .inl rfl
      next e he => exact .inr ⟨c, e, he, rfl⟩
  next => exact .inl rfl

/-- No frame begins while one is in flight (R143). -/
theorem State.beginFrame_of_sending (hk : s.link ≠ none) : s.beginFrame = s := by
  have hbusy : s.link.isNone = false := by simpa [Option.isSome_iff_ne_none] using hk
  simp only [State.beginFrame, hbusy, Bool.false_and]
  rfl

/-- Which frame begins does not rest on the channels' engines (R143). -/
theorem State.beginFrame_withChans (v : Vector Channel 6) :
    ({ s with chans := v } : State).beginFrame = { s.beginFrame with chans := v } := by
  rw [State.beginFrame_eq, State.beginFrame_eq]
  have hentry : ∀ c, ({ s with chans := v } : State).ann c = s.ann c := fun _ => rfl
  simp only [sending, hentry]
  split
  next =>
    cases (after s.lastSent).find? fun c => (s.ann c).entry.isSome with
    | none => rfl
    | some c =>
      dsimp only
      cases (s.ann c).entry <;> rfl
  next => rfl

end Rotation

/-- Settles O59, from the hand-on and from the frame that begins on the freed link. -/
theorem announcementsFollowTheRotation : Obligations.AnnouncementsFollowTheRotation := by
  intro c s
  refine ⟨s.handOn_eq c, congrArg Host.Outcome.next ?_⟩
  unfold State.frameComplete
  cases hk : s.link with
  | none => rfl
  | some k => exact State.beginFrame_eq _

/-! ### The announce law of each channel apart (R140, R141) -/

/-- A pending entry is the announced state with its sequence number (R141). -/
def AnnounceChannel.EntryLawful (x : AnnounceChannel) : Prop := ∀ e, x.entry = some e → e = (x.announced, x.seq)

/-- The serializer's state of a channel is that of what the channel forms. -/
def State.AnnouncedAt (s : State) (d : Ch) : Prop :=
  (s.ann d).announced = (s.ch d).announced ∧ (s.ann d).EntryLawful

/-- The announce law at every channel. -/
def State.AllAnnounced (s : State) : Prop := ∀ d, s.AnnouncedAt d

/-- The announce law at every channel but for the state that one channel has still to hand on. -/
def State.AnnouncedBut (s : State) (c : Ch) : Prop := (s.ann c).EntryLawful ∧ ∀ d, d ≠ c → s.AnnouncedAt d

/-- The announce law is that of each channel. -/
theorem State.announceLawful_iff (s : State) : s.announceLawful = true ↔ s.AllAnnounced := by
  have hmem : ∀ d : Ch, d ∈ channels := by decide
  simp only [State.announceLawful, State.AllAnnounced, State.AnnouncedAt, AnnounceChannel.EntryLawful, List.all_eq_true, hmem,
    forall_const, Bool.and_eq_true, beq_iff_eq, Option.all_eq_true]

section AnnounceLaw

variable {s t : State} {c d : Ch}

/-- The law of a channel rests on its serializer's state and on what it forms. -/
theorem State.AnnouncedAt.congr (h : s.AnnouncedAt d) (ha : t.ann d = s.ann d)
    (hc : (t.ch d).announced = (s.ch d).announced) : t.AnnouncedAt d := by
  unfold State.AnnouncedAt
  rw [ha, hc]
  exact h

/-- A part whose channels and serializer stand as they were keeps the announce law. -/
theorem State.AllAnnounced.congr (h : s.AllAnnounced) (hc : t.chans = s.chans) (ha : t.announcer = s.announcer) :
    t.AllAnnounced :=
  fun d => (h d).congr (by simp only [State.ann, ha]) (by simp only [State.ch, hc])

/-- Where all is announced, nothing but what one channel forms next can be left to announce. -/
theorem State.AllAnnounced.but (h : s.AllAnnounced) (c : Ch) : s.AnnouncedBut c := ⟨(h c).2, fun d _ => h d⟩

/-- What a channel has still to hand on rests on the channels and on the serializer. -/
theorem State.AnnouncedBut.congr (h : s.AnnouncedBut c) (hc : t.chans = s.chans) (ha : t.announcer = s.announcer) :
    t.AnnouncedBut c := by
  have hann : ∀ d, t.ann d = s.ann d := fun d => by simp only [State.ann, ha]
  exact ⟨by rw [hann]; exact h.1, fun d hd => (h.2 d hd).congr (hann d) (by simp only [State.ch, hc])⟩

/-- A channel replaced by one that forms the same announced state keeps the law (R107). -/
theorem State.AllAnnounced.setCh {v : Channel} (h : s.AllAnnounced) (hv : v.announced = (s.ch c).announced) :
    (s.setCh c v).AllAnnounced := by
  intro d
  refine (h d).congr (s.ann_setCh c v d) ?_
  by_cases hd : d = c
  · rw [hd, State.ch_setCh_same, hv]
  · rw [State.ch_setCh_ne _ _ _ _ hd]

/-- A channel replaced leaves nothing else to announce. -/
theorem State.AnnouncedBut.setCh {v : Channel} (h : s.AnnouncedBut c) : (s.setCh c v).AnnouncedBut c :=
  ⟨h.1, fun d hd => (h.2 d hd).congr (s.ann_setCh c v d) (by rw [State.ch_setCh_ne _ _ _ _ hd])⟩

/-- The beginning of a frame takes a channel's entry or leaves it (R143). -/
theorem State.entryLawful_beginFrame (h : (s.ann d).EntryLawful) : (s.beginFrame.ann d).EntryLawful := by
  rcases s.beginFrame_cases with heq | ⟨c, e, -, heq⟩
  · rw [heq]; exact h
  · rw [heq]
    by_cases hd : d = c
    · have hnone : ((begun s c e).ann d).entry = none := by subst hd; simp [begun, State.ann, State.setAnn]
      intro x hx
      rw [hnone] at hx
      contradiction
    · have hsame : (begun s c e).ann d = s.ann d := s.ann_setAnn_ne c d _ hd
      rw [hsame]; exact h

/-- The beginning of a frame keeps the law of each channel (R142, R143). -/
theorem State.AnnouncedAt.beginFrame (h : s.AnnouncedAt d) : s.beginFrame.AnnouncedAt d := by
  refine ⟨?_, State.entryLawful_beginFrame h.2⟩
  rw [(s.ann_beginFrame d).1, h.1]
  simp only [State.ch, State.beginFrame_chans]

/-- A channel that makes its announcement has announced what it forms, with the next sequence number in its entry (R141). -/
theorem State.AnnouncedBut.announceChange (h : s.AnnouncedBut c) : (s.announceChange c).AllAnnounced := by
  intro d
  unfold State.announceChange
  by_cases hsame : (s.ch c).announced = (s.ann c).announced
  · simp only [hsame, if_true]
    by_cases hd : d = c
    · exact hd ▸ ⟨hsame.symm, h.1⟩
    · exact h.2 d hd
  · simp only [hsame, if_false]
    by_cases hd : d = c
    · subst hd
      refine ⟨by rw [State.ann_setAnn_same, State.ch_setAnn], ?_⟩
      rw [State.ann_setAnn_same]
      intro e he
      exact (Option.some.inj he).symm
    · exact (h.2 d hd).congr (State.ann_setAnn_ne _ _ _ _ hd) rfl

/-- A channel that hands on its state leaves nothing to announce (R107, R140, R141). -/
theorem State.AnnouncedBut.handOn (h : s.AnnouncedBut c) : (s.handOn c).AllAnnounced := by
  unfold State.handOn
  split
  next hsame =>
    intro d
    by_cases hd : d = c
    · exact hd ▸ ⟨hsame.symm, h.1⟩
    · exact h.2 d hd
  next => exact fun d => (h.announceChange d).beginFrame

end AnnounceLaw

/-! ### The announcements of a channel reset (R108, R147) -/

/-- The serializer's state of a channel that is announced NONE. -/
def AnnounceChannel.told (x : AnnounceChannel) : AnnounceChannel :=
  if x.announced = Announced.nothing then x
  else
    { announced := Announced.nothing, seq := x.seq + 1, entry := some (Announced.nothing, x.seq + 1), lastSent := x.lastSent }

section ChannelReset

variable {s : State}

/-- What is announced NONE stays so, so that telling it again changes nothing. -/
theorem AnnounceChannel.told_told (x : AnnounceChannel) : x.told.told = x.told := by
  by_cases h : x.announced = Announced.nothing <;> simp [AnnounceChannel.told, h]

/-- An OFF channel forms NONE (R107). -/
theorem Channel.announced_of_off {ch : Channel} (ho : ch.acq = .off) : ch.announced = Announced.nothing := by
  unfold Channel.announced
  split
  next => rw [ho]
  next => rfl

/-- A channel reset touches the channels' engines and the serializer's channels alone, one at a time. -/
theorem State.resetChannel_frame (s : State) (c : Ch) :
    ∃ v w, s.resetChannel c = { s with chans := v, announcer := w } := by
  unfold State.resetChannel State.announceChange
  split
  next => exact ⟨s.chans, s.announcer, rfl⟩
  next =>
    dsimp only
    split
    next => exact ⟨_, s.announcer, rfl⟩
    next => exact ⟨_, _, rfl⟩

/-- A channel that is reset is announced NONE and leaves nothing to announce (R147). -/
theorem State.AllAnnounced.resetChannel (h : s.AllAnnounced) (c : Ch) :
    (s.resetChannel c).AllAnnounced ∧ (s.resetChannel c).ann c = (s.ann c).told ∧
      ∀ d, d ≠ c → (s.resetChannel c).ann d = s.ann d := by
  unfold State.resetChannel
  split
  next ho =>
    refine ⟨h, ?_, fun _ _ => rfl⟩
    rw [AnnounceChannel.told, if_pos ((h c).1.trans (Channel.announced_of_off ho))]
  next =>
    refine ⟨(h.but c).setCh.announceChange, ?_, ?_⟩
    · have hstop : (s.ch c).stop.announced = Announced.nothing := Channel.announced_of_off rfl
      simp only [State.announceChange, State.ch_setCh_same, hstop, State.ann_setCh, AnnounceChannel.told]
      by_cases hn : (s.ann c).announced = Announced.nothing
      · simp [hn]
      · simp [hn, Ne.symm hn]
    · intro d hd
      unfold State.announceChange
      dsimp only
      split
      next => rfl
      next => rw [State.ann_setAnn_ne _ _ _ _ hd, State.ann_setCh]

/-- Channels reset one after another are announced NONE (R147). -/
theorem State.AllAnnounced.resetChannels (h : s.AllAnnounced) (l : List Ch) :
    (l.foldl State.resetChannel s).AllAnnounced ∧
      ∀ c, (l.foldl State.resetChannel s).ann c = if c ∈ l then (s.ann c).told else s.ann c := by
  induction l generalizing s with
  | nil => exact ⟨h, fun c => by simp⟩
  | cons c l ih =>
    obtain ⟨hall, htold, hothers⟩ := h.resetChannel c
    obtain ⟨hall', hann⟩ := ih hall
    refine ⟨hall', fun d => ?_⟩
    rw [List.foldl_cons, hann d]
    by_cases hd : d = c
    · subst hd
      simp [htold, AnnounceChannel.told_told]
    · simp [hothers d hd, hd]

/-- Channels reset one after another leave all but engines and announcements. -/
theorem State.resetChannels_frame (s : State) (l : List Ch) :
    ∃ v w, l.foldl State.resetChannel s = { s with chans := v, announcer := w } := by
  induction l generalizing s with
  | nil => exact ⟨s.chans, s.announcer, rfl⟩
  | cons c l ih =>
    obtain ⟨v, w, hc⟩ := s.resetChannel_frame c
    obtain ⟨v', w', hl⟩ := ih (s.resetChannel c)
    exact ⟨v', w', by rw [List.foldl_cons, hl, hc]⟩

/-- The part with every channel announced NONE, its engines and its link as they are. -/
def State.told (s : State) : State := { s with announcer := Vector.ofFn fun c : Ch => (s.ann c).told }

/-- A channel reset announces every channel NONE, and then a frame begins (R143, R147, entry 9). -/
theorem State.AllAnnounced.channelReset (h : s.AllAnnounced) :
    ∃ v, s.channelReset = ({ s.told.beginFrame with chans := v } : State).clearChannelFlags := by
  obtain ⟨v, w, hframe⟩ := s.resetChannels_frame channels
  have hmem : ∀ c : Ch, c ∈ channels := by decide
  have hw : w = Vector.ofFn fun c : Ch => (s.ann c).told := by
    refine Vector.ext fun i hi => ?_
    have hann := (h.resetChannels channels).2 ⟨i, hi⟩
    rw [hframe, if_pos (hmem _)] at hann
    simpa [State.ann] using hann
  refine ⟨v, ?_⟩
  have hreset : channels.foldl State.resetChannel s = { s.told with chans := v } := by rw [hframe, hw]; rfl
  simp only [State.channelReset, hreset, State.beginFrame_withChans]

end ChannelReset

/-- Settles O26: the announcements of the reset are those of `State.told`, and the frame that begins is R143's. -/
theorem channelResetAnnouncesNone : Obligations.ChannelResetAnnouncesNone := by
  intro p tag s hx _ hl
  obtain ⟨v, hreset⟩ := (s.announceLawful_iff.1 hl).channelReset
  have hexec : exec (.resetDeviceChannels p tag 1) s = .next (answered s.channelReset p tag .done []) := by
    have hrow : exec (.resetDeviceChannels p tag 1) s = .next (s.command p tag (.resetOther 1) (State.serveResetOther 1)) := rfl
    have hport : (Cmd.resetOther 1).byController = false := rfl
    have hserve : State.serveResetOther 1 s = (s.channelReset, Reply.of .done) := rfl
    rw [hrow, s.command_executing p tag _ _ hx, s.take_executing p tag _ _ hx rfl]
    simp only [hport, if_neg Bool.false_ne_true, hserve, answered, State.respond, Reply.of]
  have hann : ∀ c, s.told.ann c = (s.ann c).told := fun c => by simp [State.told, State.ann]
  refine ⟨_, hexec, ?announced, ?announcer, ?link, ?lastSent, ?rest, ?busy⟩
  case announced =>
    intro c
    have hbegun : (answered s.channelReset p tag .done []).ann c = s.told.beginFrame.ann c := by
      rw [hreset, answered, State.ann_setPort]; rfl
    rw [hbegun, (s.told.ann_beginFrame c).1, (s.told.ann_beginFrame c).2, hann, AnnounceChannel.told]
    by_cases hn : (s.ann c).announced = Announced.nothing
    · simp only [hn, if_true, and_self]
    · simp only [hn, if_false, and_self]
  case announcer => rw [answered, State.setPort_announcer, hreset, ← State.beginFrame_eq]; rfl
  case link => rw [answered, State.setPort_link, hreset, ← State.beginFrame_eq]; rfl
  case lastSent => rw [answered, State.setPort_lastSent, hreset, ← State.beginFrame_eq]; rfl
  case rest =>
    rw [answered, State.setPort_linkRest, hreset]
    exact s.told.beginFrame_linkRest
  case busy =>
    intro hbusy
    have hnone : s.told.beginFrame = s.told := s.told.beginFrame_of_sending hbusy
    rw [answered, State.setPort_link, State.setPort_lastSent, State.setPort_announcer, hreset, hnone]
    exact ⟨rfl, rfl, rfl⟩

end Sys2Proof.Machine
end

section
/-! PROOFS. Every step hands on what it changes (R107, R140, R141): the engine operations that keep the
announced state a channel forms, the rows that hand on what they change, and the step. -/

namespace Sys2Proof.Machine

/-! ### Engine operations that keep what the channel forms (R107) -/

section Forms

variable (ch : Channel)

/-- What a channel forms rests on its binding, its state, and whether its generator is RUNNING. -/
theorem Channel.announced_congr {v : Channel} (hb : v.binding = ch.binding) (ha : v.acq = ch.acq)
    (hg : v.generator.isSome = ch.generator.isSome) : v.announced = ch.announced := by
  simp only [Channel.announced, hb, ha, hg]

theorem Channel.announced_tryComplete : ch.tryComplete.announced = ch.announced := by
  unfold Channel.tryComplete; split <;> rfl

theorem Channel.announced_discardBlock : ch.discardBlock.announced = ch.announced := by
  unfold Channel.discardBlock; split <;> rfl

theorem Channel.announced_recordPolarity (input : SyncInput) (p : Polarity) :
    (ch.recordPolarity input p).announced = ch.announced := by
  unfold Channel.recordPolarity
  split
  next => rfl
  next => cases input <;> rfl

theorem Channel.announced_abandonInput (input : SyncInput) : (ch.abandonInput input).announced = ch.announced := by
  cases input with
  | lm => exact ch.announced_discardBlock
  | vm => rfl

theorem Channel.announced_cycleComplete (input : SyncInput) (high cycle : Nat) :
    (ch.cycleComplete input high cycle).announced = ch.announced := by
  unfold Channel.cycleComplete
  split
  next => rfl
  next =>
    split
    next => rfl
    next => exact Channel.announced_recordPolarity _ _ _
    next => split <;> rfl

theorem Channel.announced_beginBlock : ch.beginBlock.announced = ch.announced := by
  unfold Channel.beginBlock; split <;> rfl

theorem Channel.announced_feedBlock (period : Nat) : (ch.feedBlock period).announced = ch.announced := by
  unfold Channel.feedBlock
  split
  next => split <;> rfl
  next => exact ch.announced_beginBlock

/-- SEEKING and MEASURING form the same announced state: SUBSTITUTE under hold, NONE otherwise. -/
theorem Channel.announced_enterMeasuring (ha : ch.acq = .seeking) : ch.enterMeasuring.announced = ch.announced := by
  unfold Channel.announced
  rw [ha]
  rfl

theorem Channel.announced_linePeriod (period : Nat) : (ch.linePeriod period).announced = ch.announced := by
  have hfed : ((ch.feedStability period).feedBlock period).announced = ch.announced :=
    Channel.announced_feedBlock _ period
  unfold Channel.linePeriod
  dsimp only
  split
  next hseek =>
    simp only [Bool.and_eq_true, decide_eq_true_eq] at hseek
    rw [Channel.announced_enterMeasuring _ hseek.1, hfed]
  next => exact hfed

theorem Channel.announced_lineOutOfRange : ch.lineOutOfRange.announced = ch.announced := ch.announced_discardBlock

theorem Channel.announced_takeAverage (average : Nat) : (ch.takeAverage average).announced = ch.announced := rfl

theorem Channel.announced_evaluateBlock (average : Nat) : (ch.evaluateBlock average).announced = ch.announced := by
  unfold Channel.evaluateBlock; split <;> rfl

theorem Channel.announced_unmatchedBoundary : ch.unmatchedBoundary.announced = ch.announced := by
  unfold Channel.unmatchedBoundary
  dsimp only
  split <;> rfl

theorem Channel.announced_closeInterval (v : Nat) : (ch.closeInterval v).announced = ch.announced := by
  unfold Channel.closeInterval
  split
  next =>
    dsimp only
    cases ch.front.prevInterval with
    | none => rfl
    | some q =>
      dsimp only
      split <;> rfl
  next => rfl

theorem Channel.announced_alignBlock : ch.alignBlock.announced = ch.announced := by
  unfold Channel.alignBlock
  split
  next => split <;> rfl
  next => rfl
  next => rfl

theorem Channel.announced_markVertical : ch.markVertical.announced = ch.announced := ch.announced_alignBlock

theorem Channel.announced_closeWidth : ch.closeWidth.announced = ch.announced := by
  unfold Channel.closeWidth
  split
  next => split <;> rfl
  next => rfl

/-- A RUNNING generator that goes on is RUNNING still. -/
theorem Channel.announced_running {v : Channel} {g : Generator} (hg : ch.generator = some g) (hb : v.binding = ch.binding)
    (ha : v.acq = ch.acq) (hv : v.generator.isSome = true) : v.announced = ch.announced :=
  ch.announced_congr hb ha (by rw [hv, hg]; rfl)

theorem Channel.announced_substituteLine : ch.substituteLine.announced = ch.announced := by
  unfold Channel.substituteLine
  split
  next => rfl
  next g hg =>
    split
    next => rfl
    next => exact Channel.announced_running _ hg rfl rfl rfl
    next =>
      split
      next => exact Channel.announced_running _ hg rfl rfl rfl
      next => split <;> exact Channel.announced_running _ hg rfl rfl rfl

theorem Channel.announced_endSubPulse : ch.endSubPulse.announced = ch.announced := by
  unfold Channel.endSubPulse
  split
  next => rfl
  next g hg =>
    split
    next => exact Channel.announced_running _ hg rfl rfl rfl
    next => rfl

theorem Channel.announced_tick : ch.tick.announced = ch.announced := ch.announced_congr rfl rfl (Option.isSome_map ..)

theorem Channel.announced_edge (t : TimeBase) : (ch.edge t).announced = ch.announced := by
  unfold Channel.edge
  dsimp only
  split
  next => exact Channel.announced_tick _
  next => rfl

end Forms

/-! ### Parts of a row that leave channels and serializer alone -/

section Frames

variable {s : State} {c d : Ch}

theorem State.AnnouncedBut.setFlag {f : ChannelFlag} (h : s.AnnouncedBut c) : (s.setFlag d f).AnnouncedBut c := h.congr rfl rfl

theorem State.AnnouncedBut.setFlagIf {b : Bool} {f : ChannelFlag} (h : s.AnnouncedBut c) : (s.setFlagIf b d f).AnnouncedBut c :=
  h.congr (by simp) (by simp)

theorem State.AnnouncedBut.countDown {r : Handle} (h : s.AnnouncedBut c) : (s.countDown r).AnnouncedBut c :=
  h.congr (by simp) (by simp)

theorem State.AnnouncedBut.releaseBound {bound : Option Handle} (h : s.AnnouncedBut c) :
    (s.releaseBound bound).AnnouncedBut c := by
  cases bound with
  | none => exact h
  | some r => exact h.countDown

theorem State.AnnouncedBut.rebindCounts {bound : Option Handle} {r : Handle} (h : s.AnnouncedBut c) :
    (s.rebindCounts bound r).AnnouncedBut c := by
  unfold State.rebindCounts
  split
  next => exact h
  next => exact (h.releaseBound (bound := bound)).congr rfl rfl

theorem State.AllAnnounced.setPort {p : Port} {v : PortState} (h : s.AllAnnounced) : (s.setPort p v).AllAnnounced :=
  h.congr (by simp) (by simp)

theorem State.AllAnnounced.beginFrame (h : s.AllAnnounced) : s.beginFrame.AllAnnounced := fun d => (h d).beginFrame

/-- Steps that each keep the announce law keep it one after another. -/
theorem State.AllAnnounced.foldl {f : State → Ch → State} (hf : ∀ s c, s.AllAnnounced → (f s c).AllAnnounced) (l : List Ch)
    (h : s.AllAnnounced) : (l.foldl f s).AllAnnounced :=
  List.foldlRecOn l f h fun s hs c _ => hf s c hs

/-- Entry to DRIFTING hands on (R94). -/
theorem State.AnnouncedBut.drift (h : s.AnnouncedBut c) : (s.drift c).AllAnnounced := h.setCh.handOn

end Frames

/-! ### The front end and the acquisition machine (chapters 4 and 5) -/

section Events

variable {s : State} (c : Ch)

theorem State.AllAnnounced.changePolarity (h : s.AllAnnounced) (input : SyncInput) : (s.changePolarity c input).AllAnnounced := by
  unfold State.changePolarity
  dsimp only
  split
  next p count _ =>
    split
    next =>
      split
      next => exact (h.but c).setCh.setFlagIf.handOn
      next =>
        refine h.setCh ?_
        rw [Channel.announced_abandonInput, Channel.announced_recordPolarity]
        rfl
    next => exact h
  next => exact h

/-- An out-of-range line period is counted, or makes the channel drift (R90). -/
theorem State.AllAnnounced.outOfRangeLine {v : Channel} (h : s.AllAnnounced) (hv : v.announced = (s.ch c).announced) :
    (s.outOfRangeLine c v).AllAnnounced := by
  unfold State.outOfRangeLine
  split
  next =>
    dsimp only
    split
    next => exact (h.but c).setCh.drift
    next => exact h.setCh hv
  next => exact h.setCh hv

theorem State.AllAnnounced.lineMarker (h : s.AllAnnounced) (ticks : Nat) : (s.lineMarker c ticks).AllAnnounced := by
  unfold State.lineMarker
  dsimp only
  split
  next =>
    split
    next => exact h.setCh (Channel.announced_beginBlock _)
    next k _ =>
      split
      next => exact h.setCh (Channel.announced_linePeriod _ _)
      next =>
        refine h.outOfRangeLine c ?_
        rw [Channel.announced_beginBlock, Channel.announced_lineOutOfRange]
        rfl
  next => exact h

theorem State.AllAnnounced.longLine (h : s.AllAnnounced) : (s.longLine c).AllAnnounced := by
  unfold State.longLine
  dsimp only
  split
  next => exact h.outOfRangeLine c (Channel.announced_lineOutOfRange _)
  next => exact h

/-- A re-verify takes up its amendment and hands on, or makes the channel drift (R93). -/
theorem State.AllAnnounced.reverifyStep (h : s.AllAnnounced) : (s.reverifyStep c).AllAnnounced := by
  unfold State.reverifyStep
  dsimp only
  split
  next => exact h
  next =>
    split
    next => exact (h.but c).setCh.setFlag.handOn
    next => exact (h.but c).setCh.drift

theorem State.AllAnnounced.markSteps (h : s.AllAnnounced) (average : Nat) : (s.markSteps c average).AllAnnounced := by
  unfold State.markSteps
  dsimp only
  split
  next => exact h
  next =>
    split
    next => exact (h.but c).drift
    next =>
      split
      next => exact (h.but c).setCh.drift
      next =>
        split
        next => exact h.setCh rfl
        next => exact h

theorem State.AllAnnounced.blockBoundary (h : s.AllAnnounced) : (s.blockBoundary c).AllAnnounced := by
  unfold State.blockBoundary
  dsimp only
  split
  next => exact h
  next a _ =>
    split
    next =>
      split
      next => exact (h.but c).setCh.handOn
      next => exact h.setCh ((Channel.announced_tryComplete _).trans (Channel.announced_takeAverage _ a))
    next =>
      split
      next => exact (h.but c).setCh.handOn
      next => exact h.setCh ((Channel.announced_unmatchedBoundary _).trans (Channel.announced_takeAverage _ a))
    next =>
      have hevaluated := (Channel.announced_evaluateBlock _ a).trans (Channel.announced_takeAverage (s.ch c) a)
      exact ((h.setCh hevaluated).reverifyStep c).markSteps c a
    next => exact h.setCh rfl
    next => exact h.setCh rfl
    next => exact h.setCh rfl
    next => exact h.setCh rfl
    next => exact h.setCh rfl

theorem State.AllAnnounced.takeInterval (h : s.AllAnnounced) (v : Nat) : (s.takeInterval c v).AllAnnounced := by
  unfold State.takeInterval
  dsimp only
  split
  next =>
    split
    next => exact h.setCh rfl
    next =>
      split
      next => exact (h.but c).setCh.drift
      next => exact h.setCh rfl
  next => exact h.setCh (Channel.announced_tryComplete _)

theorem State.AllAnnounced.verticalMarker (h : s.AllAnnounced) : (s.verticalMarker c).AllAnnounced := by
  unfold State.verticalMarker
  dsimp only
  split
  next =>
    split
    next => exact h.setCh (Channel.announced_markVertical _)
    next v _ =>
      refine (h.setCh ?_).takeInterval c v
      rw [Channel.announced_markVertical, Channel.announced_closeInterval]
  next => exact h

theorem State.AllAnnounced.longInterval (h : s.AllAnnounced) : (s.longInterval c).AllAnnounced := by
  unfold State.longInterval
  dsimp only
  split
  next v _ =>
    split
    next =>
      refine (h.setCh ?_).takeInterval c v
      exact Channel.announced_closeInterval (s.ch c) v
    next => exact h
  next => exact h

theorem State.AllAnnounced.lineLossExpires (h : s.AllAnnounced) : (s.lineLossExpires c).AllAnnounced := by
  unfold State.lineLossExpires
  dsimp only
  split
  next =>
    split
    next => exact (h.but c).setCh.setFlag.setFlagIf.handOn
    next => exact h.setCh rfl
  next => exact h

theorem State.AllAnnounced.verticalLossExpires (h : s.AllAnnounced) : (s.verticalLossExpires c).AllAnnounced := by
  unfold State.verticalLossExpires
  dsimp only
  split
  next =>
    split
    next =>
      split
      next => exact (h.but c).setCh.drift
      next => exact h.setCh rfl
    next => exact h.setCh rfl
  next => exact h

theorem State.AllAnnounced.holdLimitExpires (h : s.AllAnnounced) : (s.holdLimitExpires c).AllAnnounced := by
  unfold State.holdLimitExpires
  dsimp only
  split
  next => exact (h.but c).setCh.setFlag.handOn
  next => exact h

theorem State.AllAnnounced.substituteFrameStart (h : s.AllAnnounced) : (s.substituteFrameStart c).AllAnnounced := by
  unfold State.substituteFrameStart
  dsimp only
  split
  next => exact h
  next g hg _ => exact h.setCh (Channel.announced_running _ hg rfl rfl rfl)
  next => exact (h.but c).setCh.setFlag.handOn

theorem State.AllAnnounced.frameComplete (h : s.AllAnnounced) : s.frameComplete.AllAnnounced := by
  unfold State.frameComplete
  split
  next =>
    have hidle : ({ s with link := none, linkRest := frameGap } : State).AllAnnounced := h.congr rfl rfl
    exact hidle.beginFrame
  next => exact h

end Events

/-! ### Requests (R52 to R55) -/

section Requests

variable {s : State} (c : Ch)

theorem State.AllAnnounced.serveMatch (h : s.AllAnnounced) (m : Measurement) : (s.serveMatch c m).AllAnnounced := by
  unfold State.serveMatch
  split
  next n _ => exact (h.but c).rebindCounts.setCh.setFlagIf.setFlag.handOn
  next =>
    unfold State.matchNone
    dsimp only
    split
    next => exact (h.but c).setCh.setFlag.handOn
    next => exact (h.but c).setCh.setFlagIf.setFlag.handOn

theorem State.AllAnnounced.serveRematch (h : s.AllAnnounced) (m : Measurement) : (s.serveRematch c m).AllAnnounced := by
  unfold State.serveRematch
  split
  next n _ => exact (h.but c).rebindCounts.setCh.setFlag.handOn
  next => exact (h.but c).releaseBound.setCh.setFlag.setFlagIf.handOn

theorem State.AllAnnounced.serveRebuild (h : s.AllAnnounced) (p : Nat) : (s.serveRebuild c p).AllAnnounced := by
  unfold State.serveRebuild
  refine h.setCh ?_
  split <;> exact Channel.announced_congr _ rfl rfl rfl

theorem State.AllAnnounced.serveRelease (h : s.AllAnnounced) (hold : HoldOption) : (s.serveRelease c hold).AllAnnounced := by
  unfold State.serveRelease
  cases s.heldBy c hold with
  | none => exact (h.but c).releaseBound.setFlagIf.setFlagIf.setCh.handOn
  | some r => exact (h.but c).rebindCounts.setFlagIf.setFlagIf.setCh.setFlagIf.setFlag.handOn

/-- A grant of a channel's request keeps what its serving keeps (R41). -/
theorem State.AllAnnounced.grantChannel {serve : State → State} (h : s.AllAnnounced)
    (hserve : ∀ t : State, t.AllAnnounced → (serve t).AllAnnounced) : (s.grantChannel c serve).AllAnnounced := by
  unfold State.grantChannel
  split
  next => exact hserve _ (h.congr rfl rfl)
  next => exact h

end Requests

/-! ### Notices of a commit and of a retirement (R36, R118 to R120, R125) -/

section Notices

variable {s : State}

theorem State.AllAnnounced.noticeMarks (h : s.AllAnnounced) (n : Nat) (c : Ch) : (s.noticeMarks n c).AllAnnounced := h.setCh rfl

theorem State.AllAnnounced.noticeAmendment (h : s.AllAnnounced) (n : Nat) (c : Ch) : (s.noticeAmendment n c).AllAnnounced := by
  unfold State.noticeAmendment
  dsimp only
  split
  next =>
    split
    next => exact (h.but c).setCh.setFlag.handOn
    next => exact h.setCh rfl
  next => exact h

theorem State.AllAnnounced.noticeCommit (h : s.AllAnnounced) (n : Nat) (amended : Bool) :
    (s.noticeCommit n amended).AllAnnounced := by
  refine State.AllAnnounced.foldl (fun t c ht => State.AllAnnounced.noticeMarks ?_ n c) _ (h.congr rfl rfl)
  split
  next => exact ht.noticeAmendment n c
  next => exact ht

theorem State.AllAnnounced.retireNotice (h : s.AllAnnounced) (r : Handle) (c : Ch) : (s.retireNotice r c).AllAnnounced := by
  unfold State.retireNotice
  dsimp only
  split
  next => exact h
  next =>
    split
    next => exact h
    next =>
      split
      next => exact (h.but c).countDown.setCh.setFlag.setFlag.handOn
      next =>
        split
        next => exact h.setCh rfl
        next => exact (h.but c).countDown.setCh.setFlag.handOn
        next => exact (h.but c).countDown.setCh.setFlag.handOn
        next => exact h

theorem State.AllAnnounced.beginRetirement (h : s.AllAnnounced) (r : Handle) : (s.beginRetirement r).AllAnnounced :=
  State.AllAnnounced.foldl (fun _ c ht => ht.retireNotice r c) _ (h.congr rfl rfl)

theorem State.AllAnnounced.forceRelease (h : s.AllAnnounced) (r : Handle) (c : Ch) : (s.forceRelease r c).AllAnnounced := by
  unfold State.forceRelease
  dsimp only
  split
  next => exact h
  next =>
    split
    next => exact h
    next =>
      split
      next hold _ => exact h.serveRelease c hold
      next => exact h
  next =>
    split
    next => exact h
    next => exact (h.but c).countDown.setCh.setFlag.setFlag.handOn

theorem State.AllAnnounced.expireRetirement (h : s.AllAnnounced) (r : Handle) : (s.expireRetirement r).AllAnnounced := by
  have hforced : (channels.foldl (fun s c => s.forceRelease r c) (s.setDeviceFlag .retireForced)).AllAnnounced :=
    State.AllAnnounced.foldl (fun _ c ht => ht.forceRelease r c) _ (h.congr rfl rfl)
  unfold State.expireRetirement
  dsimp only
  split
  next => exact hforced.congr (State.completeRetirement_chans _ r) (State.completeRetirement_announcer _ r)
  next => exact hforced

end Notices

/-! ### A full reset and the arrival of a frame (R151, R160) -/

section Arrival

variable {s : State}

/-- The part after a full reset has nothing to announce and lawful channels. -/
theorem State.reset_allAnnounced : State.reset.AllAnnounced := State.reset.announceLawful_iff.1 (by decide)

theorem State.AllAnnounced.fullReset (s : State) : s.fullReset.AllAnnounced := State.reset_allAnnounced.congr rfl rfl

/-- The first byte of a frame leaves channels and serializer as they are, or as the waiting full reset makes them (R160). -/
theorem State.frameStart_frame (s : State) (p : Port) :
    ((s.frameStart p).chans = s.chans ∧ (s.frameStart p).announcer = s.announcer) ∨
      ((s.frameStart p).chans = State.reset.chans ∧ (s.frameStart p).announcer = State.reset.announcer) := by
  unfold State.frameStart
  dsimp only
  split
  next => exact .inl ⟨rfl, rfl⟩
  next =>
    cases s.resetWaiting with
    | false => left; constructor <;> split <;> simp
    | true => right; constructor <;> split <;> simp <;> rfl

/-- The arrival of a whole frame leaves them so too. -/
theorem State.present_frame (s : State) (p : Port) (tag : Byte) (cmd : Cmd) :
    ((s.present p tag cmd).chans = s.chans ∧ (s.present p tag cmd).announcer = s.announcer) ∨
      ((s.present p tag cmd).chans = State.reset.chans ∧ (s.present p tag cmd).announcer = State.reset.announcer) := by
  have hstart := s.frameStart_frame p
  unfold State.present
  split
  next => exact .inl ⟨rfl, rfl⟩
  next =>
    split
    next =>
      dsimp only
      split
      next => simpa using hstart
      next => simpa [State.respond] using hstart
    next => exact .inl ⟨rfl, rfl⟩

theorem State.AllAnnounced.frameStart (h : s.AllAnnounced) (p : Port) : (s.frameStart p).AllAnnounced := by
  rcases s.frameStart_frame p with ⟨hc, ha⟩ | ⟨hc, ha⟩
  · exact h.congr hc ha
  · exact State.reset_allAnnounced.congr hc ha

theorem State.AllAnnounced.present (h : s.AllAnnounced) (p : Port) (tag : Byte) (cmd : Cmd) :
    (s.present p tag cmd).AllAnnounced := by
  rcases s.present_frame p tag cmd with ⟨hc, ha⟩ | ⟨hc, ha⟩
  · exact h.congr hc ha
  · exact State.reset_allAnnounced.congr hc ha

/-- The laws of the channels rest on the channels alone. -/
theorem State.channelsLawful_congr {t : State} (hc : t.chans = s.chans) : t.channelsLawful = s.channelsLawful := by
  simp only [State.channelsLawful, hc]

theorem State.channelsLawful_present (hl : s.channelsLawful = true) (p : Port) (tag : Byte) (cmd : Cmd) :
    (s.present p tag cmd).channelsLawful = true := by
  rcases s.present_frame p tag cmd with ⟨hc, -⟩ | ⟨hc, -⟩
  · rw [State.channelsLawful_congr hc, hl]
  · rw [State.channelsLawful_congr hc]; decide

end Arrival

/-! ### Commands taken by their blocks (R152) -/

section Commands

variable {s : State}

/-- A block's serving keeps the announce law at lawful channels. -/
def KeepsAnnounced (serve : State → State × Reply) : Prop :=
  ∀ s : State, s.channelsLawful = true → s.AllAnnounced → (serve s).1.AllAnnounced

/-- A taking serves the command on the part with some requester granted last, or changes nothing (R41, R152). -/
theorem State.take_cases (s : State) (p : Port) (tag : Byte) (cmd : Cmd) (serve : State → State × Reply) :
    s.take p tag cmd serve = s ∨ ∃ g r, s.take p tag cmd serve = (serve { s with granted := g }).1.respond p r := by
  unfold State.take
  dsimp only
  split
  next =>
    split
    next => exact .inr ⟨_, _, rfl⟩
    next => exact .inr ⟨s.granted, _, rfl⟩
  next => exact .inl rfl

theorem State.AllAnnounced.command {serve : State → State × Reply} (h : s.AllAnnounced) (hl : s.channelsLawful = true)
    (hserve : KeepsAnnounced serve) (p : Port) (tag : Byte) (cmd : Cmd) : (s.command p tag cmd serve).AllAnnounced := by
  have htake : ∀ t : State, t.channelsLawful = true → t.AllAnnounced → (t.take p tag cmd serve).AllAnnounced := by
    intro t htl ht
    rcases t.take_cases p tag cmd serve with heq | ⟨g, r, heq⟩
    · rw [heq]; exact ht
    · have hgranted : ({ t with granted := g } : State).AllAnnounced := ht.congr rfl rfl
      rw [heq]
      exact (hserve { t with granted := g } htl hgranted).setPort
  unfold State.command
  split
  next => exact htake s hl h
  next => exact htake _ (State.channelsLawful_present hl p tag cmd) (h.present p tag cmd)

/-- A serving that leaves channels and serializer alone keeps the announce law. -/
theorem KeepsAnnounced.of_frame {serve : State → State × Reply}
    (hserve : ∀ s : State, (serve s).1.chans = s.chans ∧ (serve s).1.announcer = s.announcer) : KeepsAnnounced serve :=
  fun s _ h => h.congr (hserve s).1 (hserve s).2

theorem KeepsAnnounced.withHandle {serve : State → State × Reply} (hserve : KeepsAnnounced serve) (r : Handle) :
    KeepsAnnounced fun s => s.withHandle r serve := by
  intro s hl h
  unfold State.withHandle
  dsimp only
  split
  next => exact h
  next => exact hserve s hl h

theorem KeepsAnnounced.withChannel {serve : Ch → State → State × Reply} (hserve : ∀ c, KeepsAnnounced (serve c))
    (channel : Byte) : KeepsAnnounced fun s => s.withChannel channel serve := by
  intro s hl h
  unfold State.withChannel
  dsimp only
  split
  next => exact hserve _ s hl h
  next => exact h

/-! ### The catalogue, the device and the event unit -/

theorem keepsAnnounced_setup (refclk : BitVec 24) (divider lease retire announce : Byte) :
    KeepsAnnounced (State.serveSetup refclk divider lease retire announce) := by
  intro s _ h
  unfold State.serveSetup
  split
  next => exact h
  next =>
    split
    next => exact h
    next =>
      dsimp only
      have htime : ∀ t : TimeBase, ({ s with time := t } : State).AllAnnounced := fun _ => h.congr rfl rfl
      split
      next => exact (htime _).beginFrame
      next => exact htime _

theorem keepsAnnounced_resetFull : KeepsAnnounced State.serveResetFull := .of_frame fun _ => ⟨rfl, rfl⟩

/-- A channel reset leaves nothing to announce (R147, R175). -/
theorem State.AllAnnounced.afterChannelReset (h : s.AllAnnounced) : s.channelReset.AllAnnounced := by
  have hflags : ∀ t : State, t.AllAnnounced → t.clearChannelFlags.AllAnnounced := fun _ ht => ht.congr rfl rfl
  exact hflags _ (h.resetChannels channels).1.beginFrame

theorem State.AllAnnounced.resetOther (h : s.AllAnnounced) (selector : Byte) :
    (State.serveResetOther selector s).1.AllAnnounced := by
  unfold State.serveResetOther
  split
  next => exact h.afterChannelReset
  next => exact h

theorem keepsAnnounced_listAfter (selector : Byte) (linePeriod frameLines : BitVec 16) (scan : Byte) :
    KeepsAnnounced (State.serveListAfter selector linePeriod frameLines scan) := by
  refine .of_frame fun s => ?_
  unfold State.serveListAfter
  split
  next => exact ⟨rfl, rfl⟩
  next => split <;> exact ⟨rfl, rfl⟩

theorem keepsAnnounced_findFormat (linePeriod frameLines : BitVec 16) (scan : Byte) (syncWidth : BitVec 16)
    (linePolarity verticalPolarity classMask : Byte) :
    KeepsAnnounced (State.serveFindFormat linePeriod frameLines scan syncWidth linePolarity verticalPolarity classMask) := by
  refine .of_frame fun s => ?_
  unfold State.serveFindFormat
  split
  next => dsimp only; split <;> exact ⟨rfl, rfl⟩
  next => exact ⟨rfl, rfl⟩

theorem keepsAnnounced_clearEvents (maps : ChannelMaps) (device : Byte) :
    KeepsAnnounced (State.serveClearEvents maps device) := by
  refine .of_frame fun s => ?_
  unfold State.serveClearEvents
  split <;> exact ⟨rfl, rfl⟩

theorem keepsAnnounced_setEventMasks (maps : ChannelMaps) (device pinDisable : Byte) :
    KeepsAnnounced (State.serveSetEventMasks maps device pinDisable) := by
  refine .of_frame fun s => ?_
  unfold State.serveSetEventMasks
  split <;> exact ⟨rfl, rfl⟩

/-! ### Editing and retiring (chapters 2 and 6) -/

theorem KeepsAnnounced.withEdit {serve : State → Fin 4 → EditContext → State × Reply} (id : Byte)
    (hserve : ∀ k e, KeepsAnnounced fun s => serve s k e) : KeepsAnnounced fun s => s.withEdit id (serve s) := by
  intro s hl h
  unfold State.withEdit
  dsimp only
  split
  next =>
    split
    next => exact hserve _ _ s hl h
    next => exact h
  next => exact h

theorem keepsAnnounced_openNew : KeepsAnnounced State.serveOpenNew := by
  refine .of_frame fun s => ?_
  unfold State.serveOpenNew
  split <;> exact ⟨rfl, rfl⟩

theorem keepsAnnounced_open (selector : Byte) (r : Handle) : KeepsAnnounced (State.serveOpen selector r) := by
  unfold State.serveOpen
  split
  next =>
    refine KeepsAnnounced.withHandle (.of_frame fun s => ?_) r
    dsimp only
    split
    next => exact ⟨rfl, rfl⟩
    next =>
      split
      next => exact ⟨rfl, rfl⟩
      next => split <;> exact ⟨rfl, rfl⟩
  next => exact .of_frame fun _ => ⟨rfl, rfl⟩

theorem keepsAnnounced_setField (id field : Byte) (value : BitVec 16) :
    KeepsAnnounced (State.serveSetField id field value) := by
  refine .withEdit id fun k e => .of_frame fun s => ?_
  split
  next => exact ⟨rfl, rfl⟩
  next => split <;> exact ⟨rfl, rfl⟩

theorem keepsAnnounced_clearField (id field : Byte) : KeepsAnnounced (State.serveClearField id field) := by
  refine .withEdit id fun k e => .of_frame fun s => ?_
  split <;> exact ⟨rfl, rfl⟩

theorem keepsAnnounced_readEdit (id : Byte) : KeepsAnnounced (State.serveReadEdit id) :=
  .withEdit id fun _ _ => .of_frame fun _ => ⟨rfl, rfl⟩

/-- A context gone FREE leaves channels and serializer alone (R9). -/
theorem State.AllAnnounced.freeContextOf (h : s.AllAnnounced) (id : Fin 4) (e : EditContext) :
    (s.freeContextOf id e).AllAnnounced := by
  unfold State.freeContextOf
  split <;> exact h.congr rfl rfl

theorem keepsAnnounced_dropEdit (id : Byte) : KeepsAnnounced (State.serveDropEdit id) :=
  .withEdit id fun k e _ _ h => h.freeContextOf k e

theorem State.AllAnnounced.amendRecord (h : s.AllAnnounced) (k : Fin 4) (n : Nat) (body : Body) :
    (s.amendRecord k n body).AllAnnounced := by
  unfold State.amendRecord
  dsimp only
  split <;> exact h.congr rfl rfl

theorem keepsAnnounced_commitEdit (id : Byte) : KeepsAnnounced (State.serveCommitEdit id) := by
  refine .withEdit id fun k e s _ h => ?_
  have hrefused : ∀ status, (s.commitRefused k e status).1.AllAnnounced := fun _ => h.congr rfl rfl
  split
  next => exact hrefused _
  next body _ =>
    split
    next => exact hrefused _
    next =>
      split
      next =>
        dsimp only
        split
        next => exact hrefused _
        next n _ =>
          split
          next => exact hrefused _
          next =>
            have hcreated : (s.createRecord k n body).AllAnnounced := h.congr rfl rfl
            exact hcreated.noticeCommit n false
      next r _ =>
        dsimp only
        split
        next => exact hrefused _
        next => exact (h.amendRecord k r.slot.toNat body).noticeCommit r.slot.toNat true

theorem keepsAnnounced_retireRecord (r : Handle) : KeepsAnnounced (State.serveRetireRecord r) := by
  refine KeepsAnnounced.withHandle (fun s _ h => ?_) r
  dsimp only
  split
  next => exact h
  next =>
    split
    next => exact h
    next =>
      split
      next => exact h
      next =>
        split
        next => exact h
        next =>
          split
          next => exact h.congr rfl rfl
          next =>
            have hbegun := h.beginRetirement r
            dsimp only
            exact hbegun

/-! ### The channel commands (chapters 5 and 7) -/

theorem keepsAnnounced_configure (settings : RawSettings) (c : Ch) : KeepsAnnounced (State.serveConfigure settings c) := by
  intro s _ h
  unfold State.serveConfigure
  split
  next => exact h
  next =>
    split
    next => exact h
    next => exact h.setCh rfl

/-- START CHANNEL alone rests on the channel laws: an OFF channel has no binding that SEEKING would announce (R82, R83). -/
theorem keepsAnnounced_start (c : Ch) : KeepsAnnounced (State.serveStart c) := by
  intro s hl h
  unfold State.serveStart
  dsimp only
  split
  next => exact h
  next hon =>
    have ho : (s.ch c).acq = .off := by simpa using hon
    have hholding : (s.ch c).holding = none :=
      Channel.holding_of_off (((s.ch c).lawful_iff.1 (s.channelsLawful_iff.1 hl c)).1) ho
    refine h.setCh ?_
    have hnone : ∀ v : Channel, v.holding = none → v.announced = Announced.nothing := by
      intro v hv
      unfold Channel.announced
      split
      next b hb => simp [Channel.holding, hb] at hv
      next => rfl
    rw [hnone _ hholding, hnone]
    exact hholding

theorem keepsAnnounced_stop (c : Ch) : KeepsAnnounced (State.serveStop c) := by
  intro s _ h
  unfold State.serveStop State.stopChannel
  dsimp only
  split
  next => exact h
  next => exact (h.but c).setCh.handOn

theorem keepsAnnounced_rearm (c : Ch) : KeepsAnnounced (State.serveRearm c) := by
  intro s _ h
  unfold State.serveRearm
  split
  next => exact h
  next => exact (h.but c).setCh.handOn

theorem keepsAnnounced_flush (c : Ch) : KeepsAnnounced (State.serveFlush c) := fun _ _ h => h.setCh rfl

theorem keepsAnnounced_force (r : Handle) (c : Ch) : KeepsAnnounced (State.serveForce r c) := by
  intro s hl h
  unfold State.serveForce
  dsimp only
  split
  next => exact h
  next =>
    refine KeepsAnnounced.withHandle (fun t _ ht => ?_) r s hl h
    split
    next => exact ht
    next => exact (ht.but c).rebindCounts.setCh.handOn

end Commands

/-! ### Ports and transports (R149 to R155, R160, R161) -/

section Ports

variable {s : State} (p : Port)

theorem State.AllAnnounced.handOver (h : s.AllAnnounced) (tag : Byte) (cmd : Cmd) : (s.handOver p tag cmd).AllAnnounced := by
  have hport : ∀ c : Cmd, c.byPort = true → c = .resetFull ∨ ∃ selector, c = .resetOther selector := by
    intro c hc
    cases c <;> simp_all [Cmd.byPort]
  by_cases hp : cmd.byPort = true
  · rcases hport cmd hp with rfl | ⟨selector, rfl⟩
    · have hwaits : ({ s with resetWaiting := true } : State).AllAnnounced := h.congr rfl rfl
      rw [State.handOver_resetFull]
      exact hwaits.setPort
    · rw [State.handOver_resetOther]
      exact (State.AllAnnounced.resetOther h.setPort selector).setPort
  · rw [State.handOver_waits _ _ _ _ (by simpa using hp)]
    exact h.setPort

theorem State.AllAnnounced.frameEnd (h : s.AllAnnounced) (bytes : List Byte) : (s.frameEnd p bytes).AllAnnounced := by
  unfold State.frameEnd
  split
  next => exact h
  next =>
    split
    next => exact h.setPort
    next =>
      split
      next =>
        split
        next => exact h.setPort
        next cmd _ => exact h.handOver p _ cmd
      next => exact h

theorem State.AllAnnounced.setSent (h : s.AllAnnounced) (sent : List Byte) (acks : List Bool) :
    (s.setSent p sent acks).AllAnnounced := h.setPort

theorem State.AllAnnounced.readEnd (h : s.AllAnnounced) (taken : Nat) : (s.readEnd p taken).AllAnnounced := by
  unfold State.readEnd
  split
  next =>
    split
    next =>
      split
      next => exact State.AllAnnounced.fullReset s
      next => exact h.setPort
    next => exact h
  next => exact h

theorem State.AllAnnounced.endRead (h : s.AllAnnounced) (ready : Bool) (taken : Nat) :
    (s.endRead p ready taken).AllAnnounced := by
  unfold State.endRead
  split
  next =>
    cases ready with
    | true => exact (h.readEnd p taken).setSent p _ _
    | false => exact h.setSent p _ _
  next => exact h

theorem State.AllAnnounced.endCutRead (h : s.AllAnnounced) (ready : Bool) (cut taken : Nat) :
    (s.endCutRead p ready cut taken).AllAnnounced := by
  unfold State.endCutRead
  split
  next =>
    split
    next => exact h.setSent p _ _
    next => exact h
  next => exact h

theorem State.AllAnnounced.hostTransaction (h : s.AllAnnounced) (type : Byte) (bytes : List Byte) :
    (s.hostTransaction type bytes).AllAnnounced := by
  unfold State.hostTransaction
  split
  next => exact h
  next =>
    split
    next =>
      split
      next => exact h.setSent _ _ _
      next => exact ((h.frameStart .host).frameEnd .host bytes).setSent _ _ _
    next =>
      split
      next => exact (h.readEnd .host _).setSent _ _ _
      next => exact h.setSent _ _ _

end Ports

/-! ### The part's own work (entry 1) -/

section Idle

variable {s : State}

/-- An edge of REFCLK counts, and changes no binding, no state and no generator's running (R59, R60). -/
theorem State.AllAnnounced.clockEdge (h : s.AllAnnounced) : s.clockEdge.AllAnnounced := by
  have hann : s.linkEdge.announcer = s.announcer := by unfold State.linkEdge; split <;> rfl
  intro d
  refine (h d).congr ?_ ?_
  · simp only [State.ann, State.clockEdge, hann]
  · simp only [State.ch, State.clockEdge, mapEach_get]
    exact Channel.announced_edge _ _

theorem State.AllAnnounced.idle (h : s.AllAnnounced) : s.idle.AllAnnounced := by
  unfold State.idle
  split
  next => exact h
  next =>
    split
    next => exact h.congr rfl rfl
    next => exact h.clockEdge

end Idle

/-! ### The rows and the step -/

/-- The next state of an outcome, where it has one, keeps the announce law. -/
def Announces (o : Host.Outcome State Fault Refusal) : Prop := ∀ t, o = .next t → t.AllAnnounced

theorem Announces.next {t : State} (h : t.AllAnnounced) : Announces (.next t) := by
  intro u hu
  cases hu
  exact h

/-- Every row keeps the announce law at lawful channels: it hands on what it changes. -/
theorem exec_announces {s : State} (hl : s.channelsLawful = true) (h : s.AllAnnounced) (i : Instr) : Announces (exec i s) := by
  have hserved : ∀ {serve : State → State × Reply} (p : Port) (tag : Byte) (cmd : Cmd), KeepsAnnounced serve →
      Announces (.next (s.command p tag cmd serve)) :=
    fun p tag cmd hserve => .next (h.command hl hserve p tag cmd)
  have hchannel : ∀ {serve : Ch → State → State × Reply} (p : Port) (tag : Byte) (cmd : Cmd) (channel : Byte),
      (∀ c, KeepsAnnounced (serve c)) → Announces (.next (s.command p tag cmd fun s => s.withChannel channel serve)) :=
    fun p tag cmd channel hserve => hserved p tag cmd (.withChannel hserve channel)
  cases i with
  | powerOn ma => exact .next (State.AllAnnounced.fullReset _)
  | nresetAssert => exact .next (State.AllAnnounced.fullReset _)
  | nresetRelease ma =>
    refine .next ?_
    split
    next => exact h.congr rfl rfl
    next => exact h
  | commandFrameStart p =>
    refine .next ?_
    split
    next => exact h
    next => cases p <;> exact (h.frameStart _).setSent _ _ _
  | commandFrameEnd p bytes => exact .next (h.frameEnd p bytes)
  | responseReadEnd p course taken =>
    refine .next ?_
    split
    next => exact h
    next =>
      cases course with
      | whole ready => exact h.endRead p ready taken
      | cut ready after => exact h.endCutRead p ready after taken
  | hostCommandTransaction type bytes => exact .next (h.hostTransaction type bytes)
  | hostReadResponse count => exact .next (h.hostTransaction _ _)
  | monitorWriteTransfer address bytes =>
    refine .next ?_
    split
    next => exact h
    next =>
      split
      next =>
        split
        next => exact h.setSent _ _ _
        next => exact ((h.frameStart .monitor).frameEnd .monitor bytes).setSent _ _ _
      next => exact h.setSent _ _ _
  | monitorReadTransfer address count =>
    refine .next ?_
    split
    next => exact h
    next =>
      split
      next => exact (h.readEnd .monitor count).setSent _ _ _
      next => exact h.setSent _ _ _
  | readDevice p tag => exact hserved p tag _ (.of_frame fun _ => ⟨rfl, rfl⟩)
  | setupDevice p tag => exact hserved p tag _ (keepsAnnounced_setup _ _ _ _ _)
  | resetDeviceFull p tag => exact hserved p tag _ keepsAnnounced_resetFull
  | resetDeviceChannels p tag selector =>
    refine hserved p tag _ ?_
    split
    next => exact keepsAnnounced_resetFull
    next => exact fun _ _ h => h.resetOther selector
  | readRecord p tag r => exact hserved p tag _ (KeepsAnnounced.withHandle (.of_frame fun _ => ⟨rfl, rfl⟩) r)
  | listRecordsStart p tag => exact hserved p tag _ (.of_frame fun _ => ⟨rfl, rfl⟩)
  | listRecordsAfterKey p tag selector =>
    refine hserved p tag _ ?_
    split
    next => exact .of_frame fun _ => ⟨rfl, rfl⟩
    next => exact keepsAnnounced_listAfter _ _ _ _
  | findFormat p tag => exact hserved p tag _ (keepsAnnounced_findFormat _ _ _ _ _ _ _)
  | openEdit p tag selector r =>
    refine hserved p tag _ ?_
    split
    next => exact keepsAnnounced_openNew
    next => exact keepsAnnounced_open selector r
  | openEditNew p tag => exact hserved p tag _ keepsAnnounced_openNew
  | setField p tag => exact hserved p tag _ (keepsAnnounced_setField _ _ _)
  | clearField p tag => exact hserved p tag _ (keepsAnnounced_clearField _ _)
  | readEdit p tag id => exact hserved p tag _ (keepsAnnounced_readEdit id)
  | commitEdit p tag id => exact hserved p tag _ (keepsAnnounced_commitEdit id)
  | dropEdit p tag id => exact hserved p tag _ (keepsAnnounced_dropEdit id)
  | leaseExpiry id =>
    refine .next ?_
    split
    next e _ => exact (h.freeContextOf id e).congr rfl rfl
    next => exact h
  | retireRecord p tag r => exact hserved p tag _ (keepsAnnounced_retireRecord r)
  | retireTimerExpiry r =>
    refine .next ?_
    split
    next => exact h.expireRetirement r
    next => exact h
  | forceBinding p tag channel r => exact hchannel p tag _ channel (keepsAnnounced_force r)
  | configureChannel p tag channel settings => exact hchannel p tag _ channel (keepsAnnounced_configure settings)
  | startChannel p tag channel => exact hchannel p tag _ channel keepsAnnounced_start
  | stopChannel p tag channel => exact hchannel p tag _ channel keepsAnnounced_stop
  | rearmChannel p tag channel => exact hchannel p tag _ channel keepsAnnounced_rearm
  | readChannel p tag channel => exact hchannel p tag _ channel fun _ => .of_frame fun _ => ⟨rfl, rfl⟩
  | readMeasurement p tag channel => exact hchannel p tag _ channel fun _ => .of_frame fun _ => ⟨rfl, rfl⟩
  | flushShortlist p tag channel => exact hchannel p tag _ channel keepsAnnounced_flush
  | readEvents p tag => exact hserved p tag _ (.of_frame fun _ => ⟨rfl, rfl⟩)
  | clearEvents p tag => exact hserved p tag _ (keepsAnnounced_clearEvents _ _)
  | setEventMasks p tag => exact hserved p tag _ (keepsAnnounced_setEventMasks _ _ _)
  | matchRequest c =>
    refine .next ?_
    split
    next m _ => exact h.grantChannel c fun _ ht => ht.serveMatch c m
    next => exact h
  | rematchRequest c =>
    refine .next ?_
    split
    next m _ => exact h.grantChannel c fun _ ht => ht.serveRematch c m
    next => exact h
  | shortlistRebuild c =>
    refine .next ?_
    split
    next m _ => exact h.grantChannel c fun _ ht => ht.serveRebuild c m
    next => exact h
  | releaseRequest c =>
    refine .next ?_
    split
    next hold _ => exact h.grantChannel c fun _ ht => ht.serveRelease c hold
    next => exact h
  | lmCycleComplete c => exact .next (h.setCh (Channel.announced_cycleComplete _ _ _ _))
  | vmCycleComplete c => exact .next (h.setCh (Channel.announced_cycleComplete _ _ _ _))
  | polarityChange c input => exact .next (h.changePolarity c input)
  | lineMarker c ticks => exact .next (h.lineMarker c ticks)
  | longLinePeriod c => exact .next (h.longLine c)
  | blockBoundary c => exact .next (h.blockBoundary c)
  | verticalMarker c => exact .next (h.verticalMarker c)
  | longVerticalInterval c => exact .next (h.longInterval c)
  | syncWidthComplete c => exact .next (h.setCh (Channel.announced_closeWidth _))
  | lineLossExpiry c => exact .next (h.lineLossExpires c)
  | verticalLossExpiry c => exact .next (h.verticalLossExpires c)
  | holdLimitExpiry c => exact .next (h.holdLimitExpires c)
  | substituteFrameStart c => exact .next (h.substituteFrameStart c)
  | substituteLine c => exact .next (h.setCh (Channel.announced_substituteLine _))
  | announceFrameComplete => exact .next h.frameComplete
  | subLmPulseEnd c => exact .next (h.setCh (Channel.announced_endSubPulse _))

/-- Settles O9: a step is a row on the queue's rest, or the part's own work. -/
theorem everyStepHandsOnAnnouncedStates : Obligations.EveryStepHandsOnAnnouncedStates := by
  intro s t hl ha hstep
  have h : s.AllAnnounced := s.announceLawful_iff.1 ha
  refine t.announceLawful_iff.2 ?_
  unfold step at hstep
  split at hstep
  next => exact Announces.next h.idle t hstep
  next i rest _ =>
    have hrest : ({ s with pending := rest } : State).AllAnnounced := h.congr rfl rfl
    exact exec_announces (s := { s with pending := rest }) hl hrest i t hstep

end Sys2Proof.Machine
end

section
/-! PROOFS. What the releases of a record's bindings change, part by part: what lies outside them, what stands at one channel, and
what stands of the retirement; and how these add up where the channels are served from CH0 to CH5 (R110, R116, R123, R125). -/

namespace Sys2Proof.Machine

open Sys2Proof.Claims

/-! ### What a release leaves: everything outside slots, pending-retire set, channels, flags and serializer -/

/-- The state with everything that a release of a binding can change blanked. -/
def State.outside (s : State) : State :=
  { s with
    slots := State.reset.slots, retiring := [], chans := State.reset.chans, announcer := State.reset.announcer, link := none,
    lastSent := 0, events := { s.events with flags := EventUnit.initial.flags, device := 0 } }

section Outside

variable (s : State)

@[simp] theorem State.outside_setCh (c : Ch) (v : Channel) : (s.setCh c v).outside = s.outside := rfl
@[simp] theorem State.outside_setFlag (c : Ch) (f : ChannelFlag) : (s.setFlag c f).outside = s.outside := rfl
@[simp] theorem State.outside_countUp (h : Handle) : (s.countUp h).outside = s.outside := rfl

@[simp] theorem State.outside_setFlagIf (b : Bool) (c : Ch) (f : ChannelFlag) :
    (s.setFlagIf b c f).outside = s.outside := by
  cases b <;> rfl

@[simp] theorem State.outside_countDown (h : Handle) : (s.countDown h).outside = s.outside := by
  unfold State.countDown; dsimp only; repeat (first | rfl | split)

@[simp] theorem State.outside_releaseBound (bound : Option Handle) : (s.releaseBound bound).outside = s.outside := by
  cases bound with
  | none => rfl
  | some h => exact s.outside_countDown h

@[simp] theorem State.outside_rebindCounts (bound : Option Handle) (h : Handle) :
    (s.rebindCounts bound h).outside = s.outside := by
  unfold State.rebindCounts
  split
  next => rfl
  next => rw [State.outside_countUp, State.outside_releaseBound]

@[simp] theorem State.outside_beginFrame : s.beginFrame.outside = s.outside := by
  rcases s.beginFrame_cases with heq | ⟨c, e, -, heq⟩
  · rw [heq]
  · rw [heq]; rfl

@[simp] theorem State.outside_handOn (c : Ch) : (s.handOn c).outside = s.outside := by
  by_cases hsame : (s.ch c).announced = (s.ann c).announced
  · rw [s.handOn_same c hsame]
  · rw [s.handOn_differs c hsame, State.outside_beginFrame]; rfl

variable {s} {t : State}

/-- A part of the state that lies outside the releases stands as it did. -/
theorem State.eq_of_outside {α : Type} (hout : t.outside = s.outside) (g : State → α)
    (hg : ∀ x : State, g x.outside = g x) : g t = g s := by
  rw [← hg t, hout, hg]

/-- What lies outside the releases is what every row leaves. -/
theorem State.sameOutside_of_outside (hout : t.outside = s.outside) : sameOutside s t :=
  ⟨eq_of_outside hout State.time fun _ => rfl, eq_of_outside hout State.resetLow fun _ => rfl,
    eq_of_outside hout State.resetWaiting fun _ => rfl, eq_of_outside hout State.maLevel fun _ => rfl,
    eq_of_outside hout State.monitorAddress fun _ => rfl, eq_of_outside hout State.linkRest fun _ => rfl,
    eq_of_outside hout State.pending fun _ => rfl⟩

end Outside

/-! ### Channel flags (R169) -/

section Flags

theorem State.flagsOf_setFlag_ne (s : State) {c d : Ch} (hd : d ≠ c) (f : ChannelFlag) :
    (s.setFlag c f).flagsOf d = s.flagsOf d := by
  have hval : c.val ≠ d.val := fun e => hd (Fin.ext e.symm)
  simp [State.flagsOf, State.setFlag, hval]

theorem State.flagsOf_setFlag_same (s : State) (c : Ch) (f : ChannelFlag) :
    (s.setFlag c f).flagsOf c = s.flagsOf c ||| BitVec.twoPow 9 f.bit := by
  simp [State.flagsOf, State.setFlag]

theorem State.flagsOf_setFlagIf_same (s : State) (b : Bool) (c : Ch) (f : ChannelFlag) :
    (s.setFlagIf b c f).flagsOf c = if b then s.flagsOf c ||| BitVec.twoPow 9 f.bit else s.flagsOf c := by
  cases b with
  | false => rfl
  | true => exact s.flagsOf_setFlag_same c f

theorem State.hasFlag_setFlagIf (s : State) (b : Bool) (c d : Ch) (f g : ChannelFlag) :
    (s.setFlagIf b c f).hasFlag d g = (s.hasFlag d g || (b && (d == c && g == f))) := by
  cases b with
  | false => simp [State.setFlagIf]
  | true => simpa [State.setFlagIf] using s.hasFlag_setFlag c d f g

/-- A channel's flags by name are its nine bits. -/
theorem State.hasFlag_congr {s t : State} {c : Ch} (hflags : t.flagsOf c = s.flagsOf c) (f : ChannelFlag) :
    t.hasFlag c f = s.hasFlag c f := by
  rw [State.hasFlag, State.hasFlag, hflags]

theorem State.ch_setFlagIf (s : State) (b : Bool) (c d : Ch) (f : ChannelFlag) : (s.setFlagIf b c f).ch d = s.ch d := by
  cases b <;> rfl

end Flags

/-! ### What stands at one channel -/

/-- What the rules of retirement say of a channel: its engine, its flags and its announced state. -/
def State.view (s : State) (c : Ch) : Channel × BitVec 9 × Announced := (s.ch c, s.flagsOf c, (s.ann c).announced)

section View

variable (s : State) {c d : Ch}

theorem State.view_eq_iff {s t : State} :
    t.view c = s.view c ↔
      t.ch c = s.ch c ∧ t.flagsOf c = s.flagsOf c ∧ (t.ann c).announced = (s.ann c).announced := by
  simp only [State.view, Prod.mk.injEq]

@[simp] theorem State.view_setCh_ne (hd : d ≠ c) (v : Channel) : (s.setCh c v).view d = s.view d := by
  rw [State.view_eq_iff, s.ch_setCh_ne c d v hd]
  exact ⟨rfl, rfl, rfl⟩

@[simp] theorem State.view_setFlag_ne (hd : d ≠ c) (f : ChannelFlag) : (s.setFlag c f).view d = s.view d :=
  State.view_eq_iff.2 ⟨rfl, s.flagsOf_setFlag_ne hd f, rfl⟩

@[simp] theorem State.view_setFlagIf_ne (hd : d ≠ c) (b : Bool) (f : ChannelFlag) : (s.setFlagIf b c f).view d = s.view d := by
  cases b with
  | false => rfl
  | true => exact s.view_setFlag_ne hd f

@[simp] theorem State.view_countUp (h : Handle) : (s.countUp h).view d = s.view d := rfl

@[simp] theorem State.view_countDown (h : Handle) : (s.countDown h).view d = s.view d := by
  rw [State.view_eq_iff, s.flagsOf_countDown h d]
  simp only [State.ch, State.ann, State.countDown_chans, State.countDown_announcer, and_self]

@[simp] theorem State.view_releaseBound (bound : Option Handle) : (s.releaseBound bound).view d = s.view d := by
  cases bound with
  | none => rfl
  | some h => exact s.view_countDown h

@[simp] theorem State.view_rebindCounts (bound : Option Handle) (h : Handle) : (s.rebindCounts bound h).view d = s.view d := by
  unfold State.rebindCounts
  split
  next => rfl
  next => rw [State.view_countUp, State.view_releaseBound]

@[simp] theorem State.view_handOn_ne (hd : d ≠ c) : (s.handOn c).view d = s.view d :=
  State.view_eq_iff.2 ⟨s.ch_handOn c d, s.flagsOf_handOn c d, s.handOn_announced_ne c d hd⟩

end View

/-! ### What stands of the retirement of one record (R117, R123) -/

/-- A record's slot, the pending-retire set and the device flags: what the lowering of the record's binding count works on. -/
structure Retirement where
  record : Slot
  retiring : List RetireEntry
  device : BitVec 3

/-- What stands of the retirement of a record. -/
def State.retirement (s : State) (h : Handle) : Retirement := ⟨s.record h, s.retiring, s.events.device⟩

/-- A retirement completed (R123). -/
def Retirement.complete (r : Retirement) (h : Handle) : Retirement :=
  ⟨freed r.record, r.retiring.filter fun e => e.handle != h, r.device ||| 0x1⟩

/-- A record's binding count at a value. -/
def Retirement.withCount (r : Retirement) (n : Nat) : Retirement := { r with record := { r.record with count := n } }

/-- Whether the record is the one that a handle names (R6). -/
def Retirement.current (r : Retirement) (h : Handle) : Bool :=
  h.slot.toNat < 96 && r.record.state != .free && r.record.gen == h.gen

/-- A record's binding count lowered: a RETIRING record that loses its last binding completes its retirement (R110, R123). -/
def Retirement.lower (h : Handle) (r : Retirement) : Retirement :=
  if r.current h then
    if r.record.state = .retiring ∧ r.record.count ≤ 1 then r.complete h else r.withCount (r.record.count - 1)
  else r

section Store

variable (s : State) (h : Handle)

@[simp] theorem State.retirement_setCh (c : Ch) (v : Channel) : (s.setCh c v).retirement h = s.retirement h := rfl
@[simp] theorem State.retirement_setFlag (c : Ch) (f : ChannelFlag) : (s.setFlag c f).retirement h = s.retirement h := rfl

@[simp] theorem State.retirement_setFlagIf (b : Bool) (c : Ch) (f : ChannelFlag) :
    (s.setFlagIf b c f).retirement h = s.retirement h := by
  cases b <;> rfl

@[simp] theorem State.retirement_handOn (c : Ch) : (s.handOn c).retirement h = s.retirement h := by
  simp only [State.retirement, State.record, State.slot_handOn, State.handOn_retiring, State.handOn_events]

/-- Raising the count of a record in another slot leaves the retirement. -/
theorem State.retirement_countUp_ne {f : Handle} (hf : h.slot.toNat ≠ f.slot.toNat) :
    (s.countUp f).retirement h = s.retirement h := by
  have hrecord : (s.countUp f).record h = s.record h := s.slot_countUp_ne f _ hf
  simp only [State.retirement, hrecord]
  rfl

/-- A current handle names one of the 96 slots (R6). -/
theorem State.slot_lt_of_current {s : State} {h : Handle} (hc : s.current h = true) : h.slot.toNat < 96 := by
  simp only [State.current, Bool.and_eq_true, decide_eq_true_eq] at hc
  exact hc.1.1

/-- The completion of a retirement is R123's. -/
theorem State.retirement_completeRetirement (hslot : h.slot.toNat < 96) :
    (s.completeRetirement h).retirement h = (s.retirement h).complete h := by
  have hrecord : (s.completeRetirement h).record h = freed (s.record h) := State.slot_setSlot_same _ _ _ hslot
  simp only [State.retirement, hrecord]
  rfl

/-- The lowering of a binding count is R110's and R123's. -/
theorem State.retirement_countDown : (s.countDown h).retirement h = (s.retirement h).lower h := by
  unfold State.countDown Retirement.lower
  have hcurrent : (s.retirement h).current h = s.current h := rfl
  rw [hcurrent]
  split
  next hc =>
    have hslot := State.slot_lt_of_current hc
    have hlowered : (s.setSlot h.slot.toNat { s.record h with count := (s.record h).count - 1 }).retirement h =
        (s.retirement h).withCount ((s.record h).count - 1) := by
      simp only [State.retirement, State.record, State.slot_setSlot_same _ _ _ hslot]
      rfl
    simp only [Bool.and_eq_true, beq_iff_eq, decide_eq_true_eq]
    split
    next hlast =>
      rw [State.retirement_completeRetirement _ h hslot, hlowered]
      exact (if_pos hlast).symm
    next hmore =>
      rw [hlowered]
      exact (if_neg hmore).symm
  next => rfl

end Store

section Lowering

variable {r : Retirement} {h : Handle}

/-- A count lowered by less than it holds leaves the record in its state. -/
theorem Retirement.iterate_lower_of_lt (hc : r.current h = true) {n : Nat} (hn : n < r.record.count) :
    (Retirement.lower h)^[n] r = r.withCount (r.record.count - n) := by
  induction n with
  | zero => rfl
  | succ n ih =>
    have hmore : ¬ r.record.count - n ≤ 1 := by omega
    have hc' : (r.withCount (r.record.count - n)).current h = true := hc
    rw [Function.iterate_succ_apply', ih (by omega), Retirement.lower, if_pos hc', if_neg fun hlast => hmore hlast.2]
    rfl

/-- A count lowered by all it holds completes the retirement. -/
theorem Retirement.iterate_lower_all (hc : r.current h = true) (hr : r.record.state = .retiring) {n : Nat}
    (hn : r.record.count = n + 1) : (Retirement.lower h)^[n + 1] r = r.complete h := by
  have hlast : r.record.count - n ≤ 1 := by omega
  have hc' : (r.withCount (r.record.count - n)).current h = true := hc
  rw [Function.iterate_succ_apply', Retirement.iterate_lower_of_lt hc (by omega), Retirement.lower, if_pos hc',
    if_pos ⟨hr, hlast⟩]
  rfl

/-- Lowering its count makes no record LIVE. -/
theorem Retirement.lower_not_live (hr : r.record.state ≠ .live) : (r.lower h).record.state ≠ .live := by
  unfold Retirement.lower
  split
  next =>
    split
    next => simp [Retirement.complete, freed]
    next => exact hr
  next => exact hr

end Lowering

/-! ### The channels served one after another -/

/-- A serving of one channel after another, each of which leaves what stands at the others. -/
def ServesApart (f : State → Ch → State) : Prop := ∀ u c d, d ≠ c → (f u c).view d = u.view d

theorem mem_channels (c : Ch) : c ∈ channels := by revert c; decide

theorem nodup_channels : channels.Nodup := by decide

section Serving

variable {f : State → Ch → State} (hf : ServesApart f)

include hf

/-- A channel that is not served stands as it did. -/
theorem ServesApart.view_of_not_mem {l : List Ch} {c : Ch} (hc : c ∉ l) (s : State) : (l.foldl f s).view c = s.view c :=
  List.foldlRecOn l f (motive := fun t => t.view c = s.view c) rfl fun t ht d hd =>
    (hf t d c fun e => hc (e ▸ hd)).trans ht

/-- Where all channels are served, each is served as it stood, and what stands at it then stays. -/
theorem ServesApart.view_channels (s : State) (c : Ch) :
    ∃ l1 l2, channels = l1 ++ c :: l2 ∧ (l1.foldl f s).view c = s.view c ∧
      (channels.foldl f s).view c = (f (l1.foldl f s) c).view c := by
  obtain ⟨l1, l2, hl⟩ := List.append_of_mem (mem_channels c)
  have hnodup := nodup_channels
  rw [hl, List.nodup_middle, List.nodup_cons, List.mem_append, not_or] at hnodup
  obtain ⟨⟨hbefore, hafter⟩, -⟩ := hnodup
  refine ⟨l1, l2, hl, hf.view_of_not_mem hbefore s, ?_⟩
  rw [hl, List.foldl_append, List.foldl_cons]
  exact hf.view_of_not_mem hafter _

/-- Where each channel of a kind lowers a record's count once, its count is lowered as often as there are such channels. -/
theorem ServesApart.retirement_foldl {h : Handle} {p : Channel → Bool}
    (hstep : ∀ u c, (u.record h).state ≠ .live → (u.ch c).bindingLaw = true →
      (f u c).retirement h = if p (u.ch c) then (u.retirement h).lower h else u.retirement h)
    {l : List Ch} (hl : l.Nodup) {s : State} (hs : (s.record h).state ≠ .live)
    (hlaw : ∀ c ∈ l, (s.ch c).bindingLaw = true) :
    (l.foldl f s).retirement h = (Retirement.lower h)^[l.countP fun c => p (s.ch c)] (s.retirement h) := by
  induction l generalizing s with
  | nil => rfl
  | cons c l ih =>
    obtain ⟨hc, hl⟩ := List.nodup_cons.1 hl
    have hkept : ∀ d ∈ l, (f s c).ch d = s.ch d := fun d hd =>
      (State.view_eq_iff.1 (hf s c d fun e => hc (e ▸ hd))).1
    have hcount : (l.countP fun d => p ((f s c).ch d)) = l.countP fun d => p (s.ch d) :=
      List.countP_congr fun d hd => by rw [hkept d hd]
    have hhead := hstep s c hs (hlaw c List.mem_cons_self)
    have hlive : ((f s c).retirement h).record.state ≠ .live := by
      rw [hhead]
      split
      next => exact Retirement.lower_not_live hs
      next => exact hs
    rw [List.foldl_cons, ih hl hlive fun d hd => by rw [hkept d hd]; exact hlaw d (List.mem_cons_of_mem c hd), hcount, hhead,
      List.countP_cons]
    split
    next => rw [Function.iterate_succ_apply]
    next => rfl

end Serving

/-! ### Bindings counted (R110) -/

section Counts

variable {s : State} {h : Handle}

/-- A current handle has its record's generation (R6). -/
theorem State.gen_of_current (hc : s.current h = true) : (s.record h).gen = h.gen := by
  simp only [State.current, Bool.and_eq_true, beq_iff_eq] at hc
  exact hc.2

/-- The record in the slot that a current handle names has that handle (R6). -/
theorem State.handleOf_of_current (hc : s.current h = true) : s.handleOf h.slot.toNat = h := by
  have hgen : (s.slot h.slot.toNat).gen = h.gen := State.gen_of_current hc
  simp only [State.handleOf, handleAt, byteOf, BitVec.ofNat_toNat, BitVec.setWidth_eq, hgen]

/-- The two laws of the catalogue that a retirement rests on, apart. -/
theorem State.catalogueLawful_retire (hl : s.catalogueLawful = true) : s.retireLaw = true ∧ s.bindingLaw = true := by
  simp only [State.catalogueLawful, Bool.and_eq_true] at hl
  exact ⟨hl.1.2, hl.2⟩

/-- The binding count of a current record is the number of the channels bound to it (R110). -/
theorem State.count_eq_boundTo (hl : s.bindingLaw = true) (hc : s.current h = true) : (s.record h).count = s.boundTo h := by
  have hslot := State.slot_lt_of_current hc
  simp only [State.bindingLaw, Bool.and_eq_true, List.all_eq_true, List.mem_range, Bool.or_eq_true, beq_iff_eq] at hl
  have hoccupied : (s.slot h.slot.toNat).state ≠ .free := by
    simp only [State.current, Bool.and_eq_true, bne_iff_ne] at hc
    exact hc.1.2
  have hcount := (hl.2 _ hslot).resolve_left hoccupied
  rwa [State.handleOf_of_current hc] at hcount

/-- The pending-retire set holds RETIRING records alone (R117). -/
theorem State.currentRetiring_of_mem (hl : s.retireLaw = true) {e : RetireEntry} (he : e ∈ s.retiring) :
    s.currentRetiring e.handle = true := by
  simp only [State.retireLaw, Bool.and_eq_true, List.all_eq_true] at hl
  exact hl.1.1.1 e he

end Counts

end Sys2Proof.Machine
end

section
/-! PROOFS. RETIRE RECORD of a record with bindings (R114, R116 to R120, R123). -/

namespace Sys2Proof.Machine

open Sys2Proof.Claims

/-! ### The retire notice at one channel (R118 to R120) -/

section Notice

variable {s : State} {h : Handle} {c : Ch}

/-- A hold's generator is RUNNING and every other binding's is QUIET (R128). -/
theorem Channel.generator_isSome_of_holding {ch : Channel} {b : Binding} (hl : ch.bindingLaw = true)
    (hb : ch.binding = .holding b) : ch.generator.isSome = (b.origin == .hold) := by
  simp only [Channel.bindingLaw, hb, Bool.and_eq_true] at hl
  obtain ⟨-, horigin⟩ := hl
  cases ho : b.origin <;> simp_all

/-- A LOCKED channel's binding is a holding one (R82). -/
theorem Channel.bound_of_locked {ch : Channel} (hl : ch.bindingLaw = true) (ha : ch.acq = .locked) :
    ch.bound = ch.holding.map Binding.handle := by
  cases hb : ch.binding with
  | holding b => simp only [Channel.bound, Channel.holding, hb, Option.map_some]
  | none => simp only [Channel.bound, Channel.holding, hb, Option.map_none]
  | departing d => simp [Channel.bindingLaw, hb, ha] at hl

/-- A channel that lets go does so with its count lowered, BINDING_RELEASED set and its state handed on; a lawful one as R119 and
R120 say, with HOLD_ENDED where its binding is a hold. -/
theorem State.retireNotice_of_letsGo (hg : letsGo h (s.ch c) = true) :
    ∃ v ended, s.retireNotice h c =
        ((((s.countDown h).setCh c v).setFlagIf ended c .holdEnded).setFlag c .bindingReleased).handOn c ∧
      ((s.ch c).bindingLaw = true → v = letGo (s.ch c) ∧ ended = (s.ch c).generator.isSome) := by
  cases hb : (s.ch c).binding with
  | none => simp [letsGo, hb] at hg
  | departing d => simp [letsGo, hb] at hg
  | holding b =>
    simp only [letsGo, hb, Bool.and_eq_true, Bool.or_eq_true, beq_iff_eq] at hg
    obtain ⟨hhandle, hwhy⟩ := hg
    have hgenerator := fun hl => Channel.generator_isSome_of_holding (b := b) (ch := s.ch c) hl hb
    simp only [State.retireNotice, Channel.holding, hb, hhandle, bne_self_eq_false, if_neg Bool.false_ne_true]
    by_cases hhold : b.origin = .hold
    · refine ⟨_, true, if_pos hhold, fun hl => ?_⟩
      have hrunning : (s.ch c).generator.isSome = true := by rw [hgenerator hl, hhold]; rfl
      rw [letGo, if_pos hrunning, Channel.endHold_eq]
      exact ⟨rfl, hrunning.symm⟩
    · have hquiet : (s.ch c).bindingLaw = true → (s.ch c).generator.isSome = false := fun hl => by
        rw [hgenerator hl]; exact beq_false_of_ne hhold
      rw [if_neg hhold]
      rcases hwhy with ((hhold' | hfrozen) | hforced)
      · exact absurd hhold' hhold
      · refine ⟨{ s.ch c with binding := .none, reverify := none }, false, by simp [hfrozen, State.setFlagIf], fun hl => ?_⟩
        rw [letGo, hquiet hl, if_neg Bool.false_ne_true, if_pos hfrozen]
        exact ⟨rfl, rfl⟩
      · have hnotFrozen : (s.ch c).acq ≠ .frozen := by rw [hforced]; decide
        refine ⟨{ { s.ch c with binding := .none }.enterSeeking with reverify := none }, false,
          by simp [hforced, State.setFlagIf], fun hl => ?_⟩
        rw [letGo, hquiet hl, if_neg Bool.false_ne_true, if_neg hnotFrozen]
        exact ⟨rfl, rfl⟩

/-- A channel that does not let go takes the rematch mark where it is LOCKED on the record, and is left elsewhere (R118). -/
theorem State.retireNotice_of_stays (hg : letsGo h (s.ch c) = false) :
    s.retireNotice h c =
      if (s.ch c).acq = .locked ∧ (s.ch c).holding.map Binding.handle = some h then
        s.setCh c { s.ch c with rematch := true }
      else s := by
  cases hb : (s.ch c).binding with
  | none => simp [State.retireNotice, Channel.holding, hb]
  | departing d => simp [State.retireNotice, Channel.holding, hb]
  | holding b =>
    by_cases hhandle : b.handle = h
    · simp only [letsGo, hb, hhandle, beq_self_eq_true, Bool.true_and, Bool.or_eq_false_iff, beq_eq_false_iff_ne] at hg
      obtain ⟨⟨hhold, hfrozen⟩, hforced⟩ := hg
      simp only [State.retireNotice, Channel.holding, hb, hhandle, hhold, bne_self_eq_false, Bool.false_eq_true, if_false,
        Option.map_some, and_true]
      cases ha : (s.ch c).acq <;> simp_all
    · simp [State.retireNotice, Channel.holding, hb, hhandle]

/-- What a retire notice can do at all: a channel lets go, takes a mark, or is left. -/
theorem State.retireNotice_cases (s : State) (h : Handle) (c : Ch) :
    (letsGo h (s.ch c) = true ∧ ∃ v ended, s.retireNotice h c =
        ((((s.countDown h).setCh c v).setFlagIf ended c .holdEnded).setFlag c .bindingReleased).handOn c) ∨
      (letsGo h (s.ch c) = false ∧ ((∃ v, s.retireNotice h c = s.setCh c v) ∨ s.retireNotice h c = s)) := by
  cases hg : letsGo h (s.ch c) with
  | true =>
    obtain ⟨v, ended, heq, -⟩ := State.retireNotice_of_letsGo hg
    exact .inl ⟨rfl, v, ended, heq⟩
  | false =>
    refine .inr ⟨rfl, ?_⟩
    rw [State.retireNotice_of_stays hg]
    split
    next => exact .inl ⟨_, rfl⟩
    next => exact .inr rfl

/-- A retire notice leaves everything outside the releases. -/
theorem State.outside_retireNotice (s : State) (h : Handle) (c : Ch) : (s.retireNotice h c).outside = s.outside := by
  obtain ⟨-, v, ended, heq⟩ | ⟨-, ⟨v, heq⟩ | heq⟩ := s.retireNotice_cases h c <;> simp [heq]

/-- A retire notice leaves every slot but the record's. -/
theorem State.slot_retireNotice_ne (s : State) (c : Ch) {m : Nat} (hm : m ≠ h.slot.toNat) :
    (s.retireNotice h c).slot m = s.slot m := by
  obtain ⟨-, v, ended, heq⟩ | ⟨-, ⟨v, heq⟩ | heq⟩ := s.retireNotice_cases h c
  · rw [heq, State.slot_handOn, State.slot_setFlag]
    cases ended <;> exact s.slot_countDown_ne h m hm
  · rw [heq, State.slot_setCh]
  · rw [heq]

/-- A retire notice at one channel leaves the others. -/
theorem servesApart_retireNotice (h : Handle) : ServesApart fun s c => s.retireNotice h c := by
  intro s c d hd
  obtain ⟨-, v, ended, heq⟩ | ⟨-, ⟨v, heq⟩ | heq⟩ := s.retireNotice_cases h c <;> simp [heq, hd]

/-- A retire notice lowers the record's count once where the channel lets go (R110). -/
theorem State.retirement_retireNotice (s : State) (h : Handle) (c : Ch) :
    (s.retireNotice h c).retirement h = if letsGo h (s.ch c) then (s.retirement h).lower h else s.retirement h := by
  obtain ⟨hg, v, ended, heq⟩ | ⟨hg, ⟨v, heq⟩ | heq⟩ := s.retireNotice_cases h c <;>
    simp [heq, hg, State.retirement_countDown]

/-- A channel's engine after a retire notice (R118 to R120). -/
theorem State.ch_retireNotice (hl : (s.ch c).bindingLaw = true) :
    (s.retireNotice h c).ch c =
      if letsGo h (s.ch c) then letGo (s.ch c)
      else if (s.ch c).acq = .locked ∧ (s.ch c).bound = some h then { s.ch c with rematch := true }
      else s.ch c := by
  cases hg : letsGo h (s.ch c) with
  | true =>
    obtain ⟨v, ended, heq, hv⟩ := State.retireNotice_of_letsGo hg
    obtain ⟨rfl, rfl⟩ := hv hl
    rw [heq, State.ch_handOn, State.ch_setFlag, if_pos rfl]
    cases (s.ch c).generator.isSome <;> exact State.ch_setCh_same _ _ _
  | false =>
    have hlocked : ((s.ch c).acq = .locked ∧ (s.ch c).bound = some h) ↔
        ((s.ch c).acq = .locked ∧ (s.ch c).holding.map Binding.handle = some h) :=
      and_congr_right fun ha => by rw [Channel.bound_of_locked hl ha]
    rw [State.retireNotice_of_stays hg, if_neg Bool.false_ne_true, if_congr hlocked rfl rfl]
    split
    next => rw [State.ch_setCh_same]
    next => rfl

/-- A channel's flags after a retire notice (R119, R120). -/
theorem State.hasFlag_retireNotice (hl : (s.ch c).bindingLaw = true) (f : ChannelFlag) :
    (s.retireNotice h c).hasFlag c f = (s.hasFlag c f ||
      (letsGo h (s.ch c) && (f == .bindingReleased || (f == .holdEnded && (s.ch c).generator.isSome)))) := by
  cases hg : letsGo h (s.ch c) with
  | true =>
    obtain ⟨v, ended, heq, hv⟩ := State.retireNotice_of_letsGo hg
    obtain ⟨rfl, rfl⟩ := hv hl
    have hbefore : ((s.countDown h).setCh c (letGo (s.ch c))).hasFlag c f = s.hasFlag c f :=
      State.hasFlag_congr (s.flagsOf_countDown h c) f
    rw [heq, State.hasFlag_congr (State.flagsOf_handOn _ c c), State.hasFlag_setFlag, State.hasFlag_setFlagIf, hbefore]
    simp only [beq_self_eq_true, Bool.true_and]
    ac_rfl
  | false =>
    rw [State.retireNotice_of_stays hg, Bool.false_and, Bool.or_false]
    split <;> rfl

/-- A channel that let go of its binding forms NONE (R107). -/
theorem Channel.announced_letGo (ch : Channel) : (letGo ch).announced = Announced.nothing := by
  have hnone : (letGo ch).binding = .none := by
    unfold letGo
    split
    next => rfl
    next => split <;> rfl
  simp only [Channel.announced, hnone]

/-- A channel that lets go announces NONE (R107, R141). -/
theorem State.announced_retireNotice (hl : (s.ch c).bindingLaw = true) (hg : letsGo h (s.ch c) = true) :
    ((s.retireNotice h c).ann c).announced = Announced.nothing := by
  have hch := State.ch_retireNotice (h := h) hl
  rw [if_pos hg] at hch
  obtain ⟨v, ended, heq, -⟩ := State.retireNotice_of_letsGo hg
  rw [heq, State.ch_handOn] at hch
  rw [heq, State.handOn_announced, hch, Channel.announced_letGo]

end Notice

/-! ### The retirement begun (R116) -/

section Begin

/-- The record RETIRING and out of the index, with its entry in the pending-retire set: R116 before the notices. -/
def State.markRetiring (s : State) (h : Handle) : State :=
  { (s.setSlot h.slot.toNat { s.record h with state := .retiring, mark := none }).indexRemove h.slot.toNat with
    retiring := s.retiring ++ [{ handle := h, timer := { units := s.time.retire, elapsed := 0 } }] }

variable (s : State) {h : Handle}

/-- R116: the record is marked, and then the notices go to the channels from CH0 to CH5. -/
theorem State.beginRetirement_eq :
    s.beginRetirement h = channels.foldl (fun s c => s.retireNotice h c) (s.markRetiring h) := rfl

theorem State.view_markRetiring (c : Ch) : (s.markRetiring h).view c = s.view c := rfl

theorem State.record_markRetiring (hslot : h.slot.toNat < 96) :
    (s.markRetiring h).record h = { s.record h with state := .retiring, mark := none } :=
  State.slot_setSlot_same _ _ _ hslot

theorem State.current_markRetiring (hc : s.current h = true) : ((s.markRetiring h).retirement h).current h = true := by
  have hslot := State.slot_lt_of_current hc
  simp [State.gen_of_current hc, Retirement.current, State.retirement, s.record_markRetiring hslot, hslot]

theorem State.outside_beginRetirement : (s.beginRetirement h).outside = (s.markRetiring h).outside := by
  rw [State.beginRetirement_eq]
  exact List.foldlRecOn channels _ (motive := fun (t : State) => t.outside = (s.markRetiring h).outside) rfl
    fun t ht c _ => (t.outside_retireNotice h c).trans ht

theorem State.slot_beginRetirement_ne {m : Nat} (hm : m ≠ h.slot.toNat) : (s.beginRetirement h).slot m = s.slot m := by
  rw [State.beginRetirement_eq]
  exact List.foldlRecOn channels _ (motive := fun (t : State) => t.slot m = s.slot m) (s.slot_setSlot_ne _ m _ hm)
    fun t ht c _ => (t.slot_retireNotice_ne c hm).trans ht

/-- A channel takes its notice as it stood when the retirement began. -/
theorem State.view_beginRetirement (c : Ch) :
    ∃ u : State, u.view c = s.view c ∧ (s.beginRetirement h).view c = (u.retireNotice h c).view c := by
  obtain ⟨l1, -, -, hbefore, hafter⟩ := (servesApart_retireNotice h).view_channels (s.markRetiring h) c
  exact ⟨_, hbefore.trans (s.view_markRetiring c), hafter⟩

section Lawful

variable {s} (hl : ∀ c, (s.ch c).bindingLaw = true)

include hl

theorem State.ch_beginRetirement (c : Ch) :
    (s.beginRetirement h).ch c =
      if letsGo h (s.ch c) then letGo (s.ch c)
      else if (s.ch c).acq = .locked ∧ (s.ch c).bound = some h then { s.ch c with rematch := true }
      else s.ch c := by
  obtain ⟨u, hbefore, hafter⟩ := s.view_beginRetirement (h := h) c
  obtain ⟨hch, -, -⟩ := State.view_eq_iff.1 hbefore
  rw [(State.view_eq_iff.1 hafter).1, State.ch_retireNotice (by rw [hch]; exact hl c), hch]

theorem State.hasFlag_beginRetirement (c : Ch) (f : ChannelFlag) :
    (s.beginRetirement h).hasFlag c f = (s.hasFlag c f ||
      (letsGo h (s.ch c) && (f == .bindingReleased || (f == .holdEnded && (s.ch c).generator.isSome)))) := by
  obtain ⟨u, hbefore, hafter⟩ := s.view_beginRetirement (h := h) c
  obtain ⟨hch, hflags, -⟩ := State.view_eq_iff.1 hbefore
  obtain ⟨-, hflags', -⟩ := State.view_eq_iff.1 hafter
  rw [State.hasFlag_congr hflags', State.hasFlag_retireNotice (by rw [hch]; exact hl c), hch, State.hasFlag_congr hflags]

theorem State.announced_beginRetirement (c : Ch) (hg : letsGo h (s.ch c) = true) :
    ((s.beginRetirement h).ann c).announced = Announced.nothing := by
  obtain ⟨u, hbefore, hafter⟩ := s.view_beginRetirement (h := h) c
  obtain ⟨hch, -, -⟩ := State.view_eq_iff.1 hbefore
  obtain ⟨-, -, hann⟩ := State.view_eq_iff.1 hafter
  rw [hann, State.announced_retireNotice (by rw [hch]; exact hl c) (by rw [hch]; exact hg)]

/-- The record's count is lowered once for each channel that lets go. -/
theorem State.retirement_beginRetirement (hslot : h.slot.toNat < 96) :
    (s.beginRetirement h).retirement h =
      (Retirement.lower h)^[channels.countP fun c => letsGo h (s.ch c)] ((s.markRetiring h).retirement h) := by
  have hmarked : ((s.markRetiring h).record h).state ≠ .live := by
    rw [State.record_markRetiring s hslot]
    exact nofun
  have hfold := (servesApart_retireNotice h).retirement_foldl (p := letsGo h)
    (fun u c _ _ => u.retirement_retireNotice h c) nodup_channels hmarked fun c _ => hl c
  exact hfold

end Lawful

end Begin

/-! ### RETIRE RECORD accepted (R114, R116) -/

section Accepted

variable {s : State} {h : Handle}

/-- A retirement is accepted where none of R114's checks fails. -/
theorem retireError_eq_none (he : retireError s h = none) :
    h.slot.toNat ≤ 95 ∧ s.current h = true ∧ (s.record h).state ≠ .retiring ∧ (s.record h).body.protect = false ∧
      (s.record h).mark = none ∧ ¬ (0 < (s.record h).count ∧ 8 ≤ s.retiring.length) := by
  simp only [retireError, ite_eq_iff, reduceCtorEq, and_false, false_or, Bool.not_eq_false, Bool.not_eq_true,
    Option.isSome_eq_false_iff, Option.isNone_iff_eq_none, and_true, Nat.not_lt] at he
  exact he

/-- RETIRE RECORD accepted with bindings begins the retirement and answers by what the notices leave of it (R116). -/
theorem exec_retireRecord_accepted (p : Port) (tag : Byte) (hx : executing s p tag (.retireRecord h)) (hg : portGranted s p)
    (he : retireError s h = none) (hcount : 0 < (s.record h).count) :
    exec (.retireRecord p tag h) s =
      .next (answered ((grantTo s p).beginRetirement h) p tag
        (if ((grantTo s p).beginRetirement h).currentRetiring h then .pending else .done) [h.slot, h.gen]) := by
  obtain ⟨hslot, hc, hstate, hprotect, hmark, hroom⟩ := retireError_eq_none he
  have hexec : exec (.retireRecord p tag h) s =
      .next (s.command p tag (.retireRecord h) (State.serveRetireRecord h)) := rfl
  have htake : s.mayTake p (.retireRecord h) = true := by simp [State.mayTake, hg]
  have hpassed : (grantTo s p).handleError h = none := by
    rw [State.handleError, if_neg (Nat.not_lt.2 hslot)]
    exact if_pos hc
  have hserve : State.serveRetireRecord h (grantTo s p) =
      ((grantTo s p).beginRetirement h,
        { status := if ((grantTo s p).beginRetirement h).currentRetiring h then .pending else .done,
          data := handleBytes h }) := by
    have hrecord : (grantTo s p).record h = s.record h := rfl
    have hretiring : (grantTo s p).retiring = s.retiring := rfl
    have hnotFull : ¬ ((decide (0 < (s.record h).count) && decide (Config.retireCapacity ≤ s.retiring.length)) = true) := by
      rw [Bool.and_eq_true, decide_eq_true_eq, decide_eq_true_eq]
      exact hroom
    simp only [State.serveRetireRecord, State.withHandle, hpassed, hrecord, hretiring, if_neg hstate, hprotect, hmark,
      Option.isSome_none, if_neg Bool.false_ne_true, if_neg hnotFull, if_neg hcount.ne']
  rw [hexec, s.command_executing p tag _ _ hx, s.take_executing p tag _ _ hx htake]
  have hcontroller : (Cmd.retireRecord h).byController = true := rfl
  rw [if_pos hcontroller, ← grantTo, hserve]
  rfl

/-- No more channels let go than the record's binding count says (R110). -/
theorem countP_letsGo_le (hl : s.bindingLaw = true) (hc : s.current h = true) :
    (channels.countP fun c => letsGo h (s.ch c)) ≤ (s.record h).count := by
  rw [State.count_eq_boundTo hl hc]
  refine List.countP_mono_left fun c _ hg => ?_
  unfold letsGo at hg
  split at hg
  next b hb =>
    simp only [Bool.and_eq_true, beq_iff_eq] at hg
    simp only [Channel.bound, hb, hg.1, beq_self_eq_true]
  next => contradiction

/-- Whether a handle names a RETIRING record rests on the slot alone (R6). -/
theorem State.currentRetiring_eq (hslot : h.slot.toNat < 96) :
    s.currentRetiring h = ((s.record h).gen == h.gen && (s.record h).state == .retiring) := by
  rw [Bool.eq_iff_iff]
  simp only [State.currentRetiring, State.current, State.record, Bool.and_eq_true, bne_iff_ne, beq_iff_eq,
    hslot, decide_true, true_and]
  exact ⟨fun ⟨⟨_, hgen⟩, hr⟩ => ⟨hgen, hr⟩, fun ⟨hgen, hr⟩ => ⟨⟨by rw [hr]; decide, hgen⟩, hr⟩⟩

/-- A LIVE record has no entry in the pending-retire set (R117). -/
theorem filter_retiring_of_not_retiring (hl : s.retireLaw = true) (hstate : (s.record h).state ≠ .retiring) :
    (s.retiring.filter fun e => e.handle != h) = s.retiring := by
  refine List.filter_eq_self.2 fun e he => bne_iff_ne.2 fun heq => hstate ?_
  have hretiring := State.currentRetiring_of_mem hl he
  simp only [State.currentRetiring, Bool.and_eq_true, beq_iff_eq, heq] at hretiring
  exact hretiring.2

/-- Where bindings remain after the notices, the record is RETIRING with its count lowered and its timer loaded (R116, R117). -/
theorem State.retirement_beginRetirement_of_lt (hl : ∀ c, (s.ch c).bindingLaw = true) (hc : s.current h = true)
    (hmark : (s.record h).mark = none) (hlt : (channels.countP fun c => letsGo h (s.ch c)) < (s.record h).count) :
    (s.beginRetirement h).retirement h =
      ⟨{ s.record h with
          state := .retiring, count := (s.record h).count - channels.countP fun c => letsGo h (s.ch c) },
        s.retiring ++ [{ handle := h, timer := { units := s.time.retire, elapsed := 0 } }], s.events.device⟩ := by
  have hslot := State.slot_lt_of_current hc
  have hrecord := s.record_markRetiring hslot
  rw [State.retirement_beginRetirement hl hslot, Retirement.iterate_lower_of_lt (s.current_markRetiring hc)]
  · simp only [Retirement.withCount, State.retirement, hrecord, hmark]
    rfl
  · simpa only [State.retirement, hrecord] using hlt

/-- Where the notices release every binding, the retirement is complete (R116, R119, R123). -/
theorem State.retirement_beginRetirement_of_eq (hl : ∀ c, (s.ch c).bindingLaw = true) (hretire : s.retireLaw = true)
    (hc : s.current h = true) (hstate : (s.record h).state ≠ .retiring) (hcount : 0 < (s.record h).count)
    (hall : (channels.countP fun c => letsGo h (s.ch c)) = (s.record h).count) :
    (s.beginRetirement h).retirement h = ⟨freed (s.record h), s.retiring, s.events.device ||| 0x1⟩ := by
  have hslot := State.slot_lt_of_current hc
  have hrecord := s.record_markRetiring hslot
  obtain ⟨n, hn⟩ := Nat.exists_eq_add_one.2 hcount
  have hfilter : (s.markRetiring h).retiring.filter (fun e => e.handle != h) = s.retiring := by
    simp [State.markRetiring, filter_retiring_of_not_retiring hretire hstate]
  rw [State.retirement_beginRetirement hl hslot, hall, hn, Retirement.iterate_lower_all (s.current_markRetiring hc)]
  · simp only [Retirement.complete, State.retirement, hrecord, hfilter]
    rfl
  · simp only [State.retirement, hrecord]
  · simpa only [State.retirement, hrecord] using hn

end Accepted

/-- An answer changes only its port (R149). -/
theorem sameOutside_answered {s t : State} (hs : sameOutside s t) (p : Port) (tag : Byte) (status : Status) (data : List Byte) :
    sameOutside s (answered t p tag status data) := by
  cases p <;> exact hs

/-- Settles O41: the notices reach each channel as it stood, and lower the count once for each that lets go. -/
theorem retireWithBindings : Obligations.RetireWithBindings := by
  intro p tag h s hx hg hchannels hcatalogue he hcount gone
  obtain ⟨-, hc, hstate, -, hmark, -⟩ := retireError_eq_none he
  obtain ⟨hretire, hbinding⟩ := State.catalogueLawful_retire hcatalogue
  have hlaw : ∀ c, ((grantTo s p).ch c).bindingLaw = true := fun c =>
    ((s.ch c).lawful_iff.1 (s.channelsLawful_iff.1 hchannels c)).1
  have hgrant : ∀ q, (grantTo s p).port q = s.port q := fun q => by cases q <;> rfl
  have hout : ((grantTo s p).beginRetirement h).outside = ((grantTo s p).markRetiring h).outside :=
    State.outside_beginRetirement _
  refine ⟨_, exec_retireRecord_accepted p tag hx hg he hcount, ?index, ?slots, ?edits, ?granted, ?outside, ?ports, ?channels,
    ?flags, ?announced, ?enables, ?deviceEnables, ?pinDisable, ?retirement⟩
  case index => rw [answered, State.setPort_index]; exact State.eq_of_outside hout State.index fun _ => rfl
  case slots =>
    intro m hm
    rw [answered, State.slot_setPort]
    exact State.slot_beginRetirement_ne _ hm
  case edits => rw [answered, State.setPort_edits]; exact State.eq_of_outside hout State.edits fun _ => rfl
  case granted => rw [answered, State.setPort_granted]; exact State.eq_of_outside hout State.granted fun _ => rfl
  case outside => exact sameOutside_answered (State.sameOutside_of_outside hout) _ _ _ _
  case ports =>
    intro q hq
    rw [answered, State.port_setPort_ne _ _ _ _ hq, ← hgrant q]
    exact State.eq_of_outside hout (State.port · q) fun _ => by cases q <;> rfl
  case channels =>
    intro c
    rw [answered, State.ch_setPort]
    exact State.ch_beginRetirement hlaw c
  case flags =>
    intro c f
    exact (State.hasFlag_congr (State.flagsOf_setPort _ _ _ _) f).trans (State.hasFlag_beginRetirement hlaw c f)
  case announced =>
    intro c hlets
    rw [answered, State.ann_setPort]
    exact State.announced_beginRetirement hlaw c hlets
  case enables =>
    intro c
    simp only [answered, State.enablesOf, State.setPort_events]
    exact State.eq_of_outside hout (State.enablesOf · c) fun _ => rfl
  case deviceEnables =>
    rw [answered, State.setPort_events]
    exact State.eq_of_outside hout (fun x => x.events.deviceEnables) fun _ => rfl
  case pinDisable =>
    rw [answered, State.setPort_events]
    exact State.eq_of_outside hout (fun x => x.events.pinDisable) fun _ => rfl
  case retirement =>
    have hslot := State.slot_lt_of_current hc
    simp only [answered, State.record, State.slot_setPort, State.setPort_retiring, State.setPort_events,
      State.port_setPort_same]
    rw [← State.record, ← State.record, State.currentRetiring_eq hslot]
    split
    next hlt =>
      obtain ⟨hrecord, hretiring, hdevice⟩ :=
        Retirement.mk.inj (State.retirement_beginRetirement_of_lt (s := grantTo s p) hlaw hc hmark hlt)
      have hgen : ((grantTo s p).record h).gen = h.gen := State.gen_of_current hc
      refine ⟨hrecord, hretiring, hdevice, ?_⟩
      rw [hrecord]
      simp [hgen]
    next hall =>
      have hgone : gone = (s.record h).count := le_antisymm (countP_letsGo_le hbinding hc) (Nat.not_lt.1 hall)
      obtain ⟨hrecord, hretiring, hdevice⟩ := Retirement.mk.inj
        (State.retirement_beginRetirement_of_eq (s := grantTo s p) hlaw hretire hc hstate hcount hgone)
      refine ⟨hrecord, hretiring, hdevice, ?_⟩
      rw [hrecord]
      simp [freed]

end Sys2Proof.Machine
end

section
/-! PROOFS. A release request served (R55, R99, R111, R130, R131): the serving in the rules' words, what it leaves, and what its
result at the channel rests on. -/

namespace Sys2Proof.Machine

open Sys2Proof.Claims

/-! ### The steps of a release result in the rules' words -/

section Transitions

variable (ch : Channel)

/-- The completion of a measurement is R86's. -/
theorem Channel.tryComplete_eq : ch.tryComplete = completed ch := by
  unfold Channel.tryComplete completed
  simp only [Bool.and_eq_true, decide_eq_true_eq, Option.isNone_iff_eq_none, and_assoc]
  rfl

/-- The frame setting of a body is R132's. -/
theorem Body.frameSetting_eq (b : Body) : b.frameSetting = frameSettingOf b := by
  unfold Body.frameSetting frameSettingOf Body.shorterField
  cases b.scan <;> cases b.syncWidth <;> rfl

/-- The taking of a frame setting is R130's, R133's and R134's. -/
theorem Channel.takeSetting_eq (f : FrameSetting) : ch.takeSetting f = generating ch f := by
  unfold Channel.takeSetting generating
  simp only [Bool.and_eq_true, decide_eq_true_eq, Channel.beginSubFrame, Polarity.not_active]
  split
  next hsame => simp only [hsame.1, hsame.2, Polarity.active]
  next => rfl

/-- Which results set flags is R111's. -/
theorem Channel.releaseSpeaks_eq : ch.releaseSpeaks = speaks ch := by
  unfold Channel.releaseSpeaks speaks Channel.departed
  cases ch.binding <;> rfl

/-- Which results set LOCK_LOST is R99's. -/
theorem Channel.releaseLosesLock_eq (held : Option Handle) : ch.releaseLosesLock held = losesLock ch held := by
  unfold Channel.releaseLosesLock losesLock Channel.departed
  cases ch.binding <;> rfl

/-- Where the effective block size has changed the block is discarded, as R70 says. -/
theorem Channel.resized_eq (before : Nat) : ch.resized before = resizedFrom ch before := by
  unfold Channel.resized resizedFrom
  by_cases hsize : ch.effectiveBlock = before
  · simp [hsize]
  · cases ch.front.block <;> simp [hsize]

/-- The discarding of a block rests on no request. -/
theorem Channel.resizedFrom_withdrawn (before : Nat) :
    { resizedFrom ch before with request := none } = resizedFrom { ch with request := none } before := by
  have hsize : ({ ch with request := none } : Channel).effectiveBlock = ch.effectiveBlock := rfl
  unfold resizedFrom
  rw [hsize]
  split
  next => rfl
  next => cases hblock : ch.front.block <;> rfl

/-- MEASURING by the release of a binding is R95's. -/
theorem Channel.enterReleased_eq : { ch.enterReleased with request := none } = released ch := by
  unfold Channel.enterReleased released
  rw [Channel.resized_eq, Channel.endHold_eq]
  exact Channel.resizedFrom_withdrawn _ _

end Transitions

/-! ### The serving (R55) -/

section Serving

variable {s : State} {c : Ch} {hold : HoldOption}

/-- A release that holds nothing. -/
theorem State.serveRelease_of_none (hheld : s.heldBy c hold = none) :
    s.serveRelease c hold =
      ((((s.releaseBound (s.ch c).bound).setFlagIf ((s.ch c).releaseSpeaks && (s.ch c).releaseLosesLock none) c
        .lockLost).setFlagIf ((s.ch c).releaseSpeaks && s.boundRetiring (s.ch c).bound) c .bindingReleased).setCh c
        ({ s.ch c with binding := .none, request := none } : Channel).tryComplete).handOn c := by
  simp only [State.serveRelease, hheld]

/-- The channel that holds a record by a release, before its generator takes its setting (R55, R130). -/
def Channel.held (ch : Channel) (b : Binding) : Channel :=
  { ch with binding := .holding b, request := none, holdLimit := loadLimit ch.settings.holdLimit }

/-- A release that holds a record. -/
theorem State.serveRelease_of_some {f : Handle} (hheld : s.heldBy c hold = some f) :
    s.serveRelease c hold =
      ((((((s.rebindCounts (s.ch c).bound f).setFlagIf ((s.ch c).releaseSpeaks && (s.ch c).releaseLosesLock (some f)) c
        .lockLost).setFlagIf ((s.ch c).releaseSpeaks && s.boundRetiring (s.ch c).bound) c .bindingReleased).setCh c
        (((s.ch c).held ((s.rebindCounts (s.ch c).bound f).bindingTo f .hold)).takeSetting
          ((s.rebindCounts (s.ch c).bound f).bindingTo f .hold).body.frameSetting).tryComplete).setFlagIf
        ((s.ch c).releaseAmends f ((s.rebindCounts (s.ch c).bound f).bindingTo f .hold).revSeen) c .recordAmended).setFlag c
        .holdStarted).handOn c := by
  simp only [State.serveRelease, hheld, Channel.held]

/-- The counts of a release are R110's. -/
theorem State.releaseBound_eq (s : State) (bound : Option Handle) : s.releaseBound bound = dropCount s bound := by
  cases bound <;> rfl

/-- The counts of a binding that moves are R110's. -/
theorem State.rebindCounts_eq (s : State) (bound : Option Handle) (f : Handle) :
    s.rebindCounts bound f = moveCount s bound f := by
  cases bound with
  | none => rfl
  | some q => simp only [State.rebindCounts, moveCount, Option.some.injEq, State.releaseBound]

/-- Whether a released record was RETIRING is R111's. -/
theorem State.boundRetiring_eq (s : State) (bound : Option Handle) : s.boundRetiring bound = wasRetiring s bound := by
  cases bound <;> rfl

/-- The record that a release of a channel without a holding binding holds is R55's. -/
theorem State.heldBy_eq (hb : (s.ch c).holding = none) : s.heldBy c hold = heldAt s (s.ch c) hold := by
  unfold State.heldBy heldAt
  cases hold with
  | none => rfl
  | last =>
    cases hbind : (s.ch c).binding with
    | holding b => simp [Channel.holding, hbind] at hb
    | none => simp only [Channel.bound, hbind]
    | departing d => simp [Channel.bound, Channel.boundOrigin, hbind]
  | fixed r =>
    cases r with
    | none => rfl
    | some f => simp only [State.releaseBound_eq]

/-- LOCK_LOST and BINDING_RELEASED of a release result are R99's and R111's. -/
theorem State.releaseFlags_eq (s t : State) (c : Ch) (held : Option Handle) :
    (t.setFlagIf ((s.ch c).releaseSpeaks && (s.ch c).releaseLosesLock held) c .lockLost).setFlagIf
      ((s.ch c).releaseSpeaks && s.boundRetiring (s.ch c).bound) c .bindingReleased = releaseFlags c held s t := by
  rw [Channel.releaseSpeaks_eq, Channel.releaseLosesLock_eq, State.boundRetiring_eq]
  rfl

/-- RECORD_AMENDED of a release result is R131's. -/
theorem State.setFlagIf_releaseAmends (t : State) (ch : Channel) (f : Handle) (rev : Byte) (c : Ch) :
    t.setFlagIf (ch.releaseAmends f rev) c .recordAmended =
      match ch.binding with
      | .departing d =>
        if d.origin = Origin.hold ∧ d.handle = f ∧ d.revSeen ≠ rev then t.setFlag c .recordAmended else t
      | _ => t := by
  unfold Channel.releaseAmends Channel.departed State.setFlagIf
  cases ch.binding with
  | none => rfl
  | holding b => rfl
  | departing d => simp [and_assoc]

/-- What a lowered count leaves of a grant. -/
theorem State.dropCount_grantCh (s : State) (c : Ch) (bound : Option Handle) :
    dropCount (grantCh s c) bound = grantCh (dropCount s bound) c := by
  cases bound with
  | none => rfl
  | some h =>
    have hcurrent : (grantCh s c).current h = s.current h := rfl
    have hrecord : (grantCh s c).record h = s.record h := rfl
    simp only [dropCount, State.countDown, hcurrent, hrecord]
    split
    next => split <;> rfl
    next => rfl

/-- Which record a release holds does not rest on the grant. -/
theorem State.heldAt_grantCh (s : State) (c : Ch) (ch : Channel) : heldAt (grantCh s c) ch hold = heldAt s ch hold := by
  unfold heldAt
  rw [State.dropCount_grantCh]
  rfl

/-- A release request of a granted channel without a holding binding is served as R55, R99, R111, R130 and R131 say. -/
theorem State.serveRelease_eq (hb : (s.ch c).holding = none) : (grantCh s c).serveRelease c hold = releaseNext c hold s := by
  have hheld : (grantCh s c).heldBy c hold = heldAt s (s.ch c) hold :=
    (State.heldBy_eq (s := grantCh s c) hb).trans (s.heldAt_grantCh c _)
  cases hv : heldAt s (s.ch c) hold with
  | none =>
    rw [State.serveRelease_of_none (hheld.trans hv), State.releaseFlags_eq, State.releaseBound_eq, Channel.tryComplete_eq]
    simp only [releaseNext, hv]
    rfl
  | some f =>
    rw [State.serveRelease_of_some (hheld.trans hv), State.releaseFlags_eq, State.rebindCounts_eq, Channel.tryComplete_eq,
      Channel.takeSetting_eq, Body.frameSetting_eq, State.setFlagIf_releaseAmends]
    simp only [releaseNext, hv]
    rfl

end Serving

/-! ### What a release leaves -/

section Leaves

variable {s : State} {c : Ch} {hold : HoldOption}

/-- A release leaves everything outside the releases. -/
@[simp] theorem State.outside_serveRelease : (s.serveRelease c hold).outside = s.outside := by
  cases hheld : s.heldBy c hold with
  | none => simp [State.serveRelease_of_none hheld]
  | some f => simp [State.serveRelease_of_some hheld]

/-- A release leaves the other channels. -/
theorem State.view_serveRelease_ne {d : Ch} (hd : d ≠ c) : (s.serveRelease c hold).view d = s.view d := by
  cases hheld : s.heldBy c hold with
  | none => simp [State.serveRelease_of_none hheld, hd]
  | some f => simp [State.serveRelease_of_some hheld, hd]

/-- A release result is handed on (R107, R141). -/
theorem State.announced_serveRelease :
    ((s.serveRelease c hold).ann c).announced = ((s.serveRelease c hold).ch c).announced := by
  cases hheld : s.heldBy c hold with
  | none => rw [State.serveRelease_of_none hheld, State.handOn_announced, State.ch_handOn]
  | some f => rw [State.serveRelease_of_some hheld, State.handOn_announced, State.ch_handOn]

/-- What a release makes of its channel rests on the channel and its flags, on whether the released record is RETIRING, and on the
record that it holds. -/
theorem State.serveRelease_congr {u v : State} (hch : u.ch c = v.ch c) (hflags : u.flagsOf c = v.flagsOf c)
    (hretiring : u.boundRetiring (v.ch c).bound = v.boundRetiring (v.ch c).bound)
    (hheld : u.heldBy c hold = v.heldBy c hold)
    (hmade : ∀ f, v.heldBy c hold = some f →
      (u.rebindCounts (v.ch c).bound f).bindingTo f .hold = (v.rebindCounts (v.ch c).bound f).bindingTo f .hold) :
    (u.serveRelease c hold).ch c = (v.serveRelease c hold).ch c ∧
      (u.serveRelease c hold).flagsOf c = (v.serveRelease c hold).flagsOf c := by
  have hreleased (w : State) (b : Option Handle) : (w.releaseBound b).flagsOf c = w.flagsOf c :=
    (State.view_eq_iff.1 (w.view_releaseBound (d := c) b)).2.1
  have hrebound (w : State) (b : Option Handle) (f : Handle) : (w.rebindCounts b f).flagsOf c = w.flagsOf c :=
    (State.view_eq_iff.1 (w.view_rebindCounts (d := c) b f)).2.1
  cases hv : v.heldBy c hold with
  | none =>
    rw [State.serveRelease_of_none (hheld.trans hv), State.serveRelease_of_none hv]
    simp only [State.ch_handOn, State.ch_setCh_same, State.flagsOf_handOn, State.flagsOf_setCh, State.flagsOf_setFlagIf_same,
      hreleased, hch, hflags, hretiring, and_self]
  | some f =>
    rw [State.serveRelease_of_some (hheld.trans hv), State.serveRelease_of_some hv, hch, hmade f hv]
    simp only [State.ch_handOn, State.ch_setFlag, State.ch_setFlagIf, State.ch_setCh_same, State.flagsOf_handOn,
      State.flagsOf_setFlag_same, State.flagsOf_setFlagIf_same, State.flagsOf_setCh, hrebound, hflags, hretiring, and_self]

end Leaves

end Sys2Proof.Machine
end

section
/-! PROOFS. The expiry of a retire timer (R125): the forced release of each channel bound to the record, and the retirement that
the last one completes. -/

namespace Sys2Proof.Machine

open Sys2Proof.Claims

/-! ### What the releases of one record leave of the other slots -/

/-- A slot without its binding count. -/
def Slot.uncounted (v : Slot) : Slot := { v with count := 0 }

theorem Slot.uncounted_eq_iff {v w : Slot} :
    v.uncounted = w.uncounted ↔
      v.state = w.state ∧ v.gen = w.gen ∧ v.rev = w.rev ∧ v.mark = w.mark ∧ v.body = w.body := by
  simp [Slot.uncounted]

/-- Slots that differ in their binding counts alone. -/
theorem Slot.eq_withCount_of_uncounted {v w : Slot} (heq : v.uncounted = w.uncounted) : v = { w with count := v.count } := by
  obtain ⟨hstate, hgen, hrev, hmark, hbody⟩ := Slot.uncounted_eq_iff.1 heq
  simp only [← hstate, ← hgen, ← hrev, ← hmark, ← hbody]

/-- The slots but the one that a handle names, without their binding counts. -/
def State.others (s : State) (h : Handle) (m : Nat) : Slot :=
  if m = h.slot.toNat then Slot.empty else (s.slot m).uncounted

section Others

variable {s t : State} {h : Handle}

theorem State.others_eq_iff :
    t.others h = s.others h ↔ ∀ m, m ≠ h.slot.toNat → (t.slot m).uncounted = (s.slot m).uncounted := by
  refine ⟨fun heq m hm => ?_, fun heq => funext fun m => ?_⟩
  · simpa only [State.others, if_neg hm] using congrFun heq m
  · unfold State.others
    split
    next => rfl
    next hm => exact heq m hm

variable (s)

@[simp] theorem State.others_setCh (c : Ch) (v : Channel) : (s.setCh c v).others h = s.others h := rfl
@[simp] theorem State.others_setFlag (c : Ch) (f : ChannelFlag) : (s.setFlag c f).others h = s.others h := rfl

@[simp] theorem State.others_setFlagIf (b : Bool) (c : Ch) (f : ChannelFlag) : (s.setFlagIf b c f).others h = s.others h := by
  cases b <;> rfl

@[simp] theorem State.others_handOn (c : Ch) : (s.handOn c).others h = s.others h :=
  State.others_eq_iff.2 fun m _ => by rw [State.slot_handOn]

@[simp] theorem State.others_countDown : (s.countDown h).others h = s.others h :=
  State.others_eq_iff.2 fun m hm => by rw [s.slot_countDown_ne h m hm]

@[simp] theorem State.others_countUp (f : Handle) : (s.countUp f).others h = s.others h := by
  refine State.others_eq_iff.2 fun m _ => ?_
  by_cases hm : m = f.slot.toNat
  · have hslot : m < 96 ∨ 96 ≤ m := Nat.lt_or_ge m 96
    rcases hslot with hslot | hslot
    · subst hm
      rw [State.countUp, State.slot_setSlot_same _ _ _ hslot]
      rfl
    · rw [State.slot_above _ m hslot, State.slot_above _ m hslot]
  · rw [s.slot_countUp_ne f m hm]

@[simp] theorem State.others_rebindCounts (f : Handle) : (s.rebindCounts (some h) f).others h = s.others h := by
  unfold State.rebindCounts
  split
  next => rfl
  next => rw [State.others_countUp]; exact s.others_countDown

end Others

/-! ### A record that is not LIVE is held by no release (R55) -/

section NotLive

variable {s u : State} {h f : Handle}

theorem State.not_currentLive_of_slot (hs : (s.record h).state ≠ .live) (hf : f.slot.toNat = h.slot.toNat) :
    s.currentLive f = false := by
  rw [State.currentLive, hf]
  exact Bool.and_eq_false_imp.2 fun _ => beq_false_of_ne hs

/-- A LIVE record stands in another slot than one that is not LIVE. -/
theorem State.slot_ne_of_currentLive (hs : (s.record h).state ≠ .live) (hf : s.currentLive f = true) :
    f.slot.toNat ≠ h.slot.toNat := fun heq => by
  rw [State.not_currentLive_of_slot hs heq] at hf
  contradiction

/-- Which handles name LIVE records rests on the other slots, without their counts. -/
theorem State.currentLive_congr (hu : (u.record h).state ≠ .live) (hs : (s.record h).state ≠ .live)
    (hothers : u.others h = s.others h) (f : Handle) : u.currentLive f = s.currentLive f := by
  by_cases hf : f.slot.toNat = h.slot.toNat
  · rw [State.not_currentLive_of_slot hu hf, State.not_currentLive_of_slot hs hf]
  · obtain ⟨hstate, hgen, -⟩ := Slot.uncounted_eq_iff.1 (State.others_eq_iff.1 hothers _ hf)
    simp only [State.currentLive, State.current, hstate, hgen]

theorem State.record_countDown_not_live (hs : (s.record h).state ≠ .live) : ((s.countDown h).record h).state ≠ .live := by
  have hlowered := congrArg (fun r => r.record.state) (s.retirement_countDown h)
  exact fun hlive => Retirement.lower_not_live (r := s.retirement h) (h := h) hs (hlowered.symm.trans hlive)

/-- Lowering the count of a record that is not LIVE leaves which handles name LIVE records. -/
theorem State.currentLive_countDown (hs : (s.record h).state ≠ .live) (f : Handle) :
    (s.countDown h).currentLive f = s.currentLive f :=
  State.currentLive_congr (State.record_countDown_not_live hs) hs s.others_countDown f

variable {c : Ch} {hold : HoldOption}

/-- What a release of a binding to a record that is not LIVE can hold is a LIVE record (R55). -/
theorem State.currentLive_of_heldBy (hs : (s.record h).state ≠ .live) (hb : (s.ch c).bound = some h)
    (hheld : s.heldBy c hold = some f) : s.currentLive f = true := by
  have hlast : s.currentLive h = false := State.not_currentLive_of_slot hs rfl
  cases hold with
  | none => simp [State.heldBy] at hheld
  | last => simp [State.heldBy, hb, hlast] at hheld
  | fixed r =>
    cases r with
    | none => simp [State.heldBy] at hheld
    | some q =>
      simp only [State.heldBy, hb, State.releaseBound, State.currentLive_countDown hs, Option.ite_none_right_eq_some,
        Option.some.injEq] at hheld
      exact hheld.2 ▸ hheld.1

/-- What a release of a binding to a record that is not LIVE holds rests on which handles name LIVE records. -/
theorem State.heldBy_congr (hu : (u.record h).state ≠ .live) (hs : (s.record h).state ≠ .live)
    (hothers : u.others h = s.others h) (hch : u.ch c = s.ch c) (hb : (s.ch c).bound = some h) :
    u.heldBy c hold = s.heldBy c hold := by
  have hlive := State.currentLive_congr hu hs hothers
  unfold State.heldBy
  simp only [hch, hb, State.releaseBound, hlive, State.currentLive_countDown hu, State.currentLive_countDown hs]

/-- The hold that a release makes is to the record as the releases leave it. -/
theorem State.bindingTo_rebindCounts (hf : f.slot.toNat ≠ h.slot.toNat) (hothers : u.others h = s.others h) :
    (u.rebindCounts (some h) f).bindingTo f .hold = (s.rebindCounts (some h) f).bindingTo f .hold := by
  have hcounted : (u.rebindCounts (some h) f).others h = (s.rebindCounts (some h) f).others h := by
    rw [State.others_rebindCounts, State.others_rebindCounts, hothers]
  obtain ⟨-, -, hrev, -, hbody⟩ := Slot.uncounted_eq_iff.1 (State.others_eq_iff.1 hcounted _ hf)
  simp only [State.bindingTo, State.record, hrev, hbody]

/-- A release of a binding to the record leaves the other slots but for their counts. -/
theorem State.others_serveRelease (hb : (s.ch c).bound = some h) : (s.serveRelease c hold).others h = s.others h := by
  cases hheld : s.heldBy c hold with
  | none => simp [State.serveRelease_of_none hheld, hb, State.releaseBound]
  | some f => simp [State.serveRelease_of_some hheld, hb]

/-- A release of a binding to the record lowers its count once (R110). -/
theorem State.retirement_serveRelease (hs : (s.record h).state ≠ .live) (hb : (s.ch c).bound = some h) :
    (s.serveRelease c hold).retirement h = (s.retirement h).lower h := by
  cases hheld : s.heldBy c hold with
  | none => simp [State.serveRelease_of_none hheld, hb, State.releaseBound, State.retirement_countDown]
  | some f =>
    have hslot := State.slot_ne_of_currentLive hs (State.currentLive_of_heldBy hs hb hheld)
    have hne : h ≠ f := fun heq => hslot (by rw [heq])
    simp [State.serveRelease_of_some hheld, hb, State.rebindCounts, hne, State.releaseBound,
      State.retirement_countUp_ne _ _ hslot.symm, State.retirement_countDown]

theorem Channel.bound_tryComplete (ch : Channel) : ch.tryComplete.bound = ch.bound := by
  unfold Channel.tryComplete; split <;> rfl

theorem Channel.bound_takeSetting (ch : Channel) (g : FrameSetting) : (ch.takeSetting g).bound = ch.bound := by
  unfold Channel.takeSetting
  dsimp only
  split <;> rfl

/-- A channel released from a record that is not LIVE is bound to it no more. -/
theorem State.bound_serveRelease_ne (hs : (s.record h).state ≠ .live) (hb : (s.ch c).bound = some h) :
    ((s.serveRelease c hold).ch c).bound ≠ some h := by
  cases hheld : s.heldBy c hold with
  | none =>
    rw [State.serveRelease_of_none hheld, State.ch_handOn, State.ch_setCh_same, Channel.bound_tryComplete]
    exact nofun
  | some f =>
    have hslot := State.slot_ne_of_currentLive hs (State.currentLive_of_heldBy hs hb hheld)
    rw [State.serveRelease_of_some hheld, State.ch_handOn, State.ch_setFlag, State.ch_setFlagIf, State.ch_setCh_same,
      Channel.bound_tryComplete, Channel.bound_takeSetting]
    exact fun heq => hslot (congrArg (fun r : Handle => r.slot.toNat) (Option.some.inj heq))

end NotLive

/-! ### The forced release of one channel (R125) -/

section Forced

variable {s : State} {h : Handle} {c : Ch}

/-- A channel that is not bound to the record is left. -/
theorem State.forceRelease_of_unbound (hb : (s.ch c).bound ≠ some h) : s.forceRelease h c = s := by
  cases hbind : (s.ch c).binding with
  | none => simp only [State.forceRelease, hbind]
  | holding b =>
    have hne : b.handle ≠ h := fun heq => hb (by rw [Channel.bound, hbind, ← heq])
    simp [State.forceRelease, hbind, hne]
  | departing d =>
    have hne : d.handle ≠ h := fun heq => hb (by rw [Channel.bound, hbind, ← heq])
    simp [State.forceRelease, hbind, hne]

/-- A holding binding to the record is released to MEASURING with both flags. -/
theorem State.forceRelease_of_holding {b : Binding} (hbind : (s.ch c).binding = .holding b) (hb : b.handle = h) :
    s.forceRelease h c =
      ((((s.countDown h).setCh c (released (s.ch c))).setFlag c .lockLost).setFlag c .bindingReleased).handOn c := by
  simp only [State.forceRelease, hbind, hb, bne_self_eq_false, Bool.false_eq_true, if_false, Channel.enterReleased_eq]

/-- A departing binding to the record has its posted release served. -/
theorem State.forceRelease_of_departing {d : Departing} {hold : HoldOption} (hbind : (s.ch c).binding = .departing d)
    (hd : d.handle = h) (hr : (s.ch c).request = some (.release hold)) : s.forceRelease h c = s.serveRelease c hold := by
  simp only [State.forceRelease, hbind, hd, hr, bne_self_eq_false, Bool.false_eq_true, if_false]

/-- A departing binding has its release posted (R82). -/
theorem Channel.release_of_departing {ch : Channel} {d : Departing} (hl : ch.bindingLaw = true)
    (hbind : ch.binding = .departing d) : ∃ hold, ch.request = some (.release hold) := by
  simp only [Channel.bindingLaw, hbind, Bool.and_eq_true, Channel.releasePosted] at hl
  obtain ⟨-, hposted⟩ := hl
  split at hposted
  next hold hr => exact ⟨hold, hr⟩
  next => contradiction

/-- What a forced release can do at all: it leaves a channel, which is not bound to the record where it is lawful, serves its
release, or releases its holding binding. -/
theorem State.forceRelease_cases (s : State) (h : Handle) (c : Ch) :
    (s.forceRelease h c = s ∧ ((s.ch c).bindingLaw = true → (s.ch c).bound ≠ some h)) ∨
      ((s.ch c).bound = some h ∧
        ((∃ hold, s.forceRelease h c = s.serveRelease c hold) ∨
          s.forceRelease h c =
            ((((s.countDown h).setCh c (released (s.ch c))).setFlag c .lockLost).setFlag c .bindingReleased).handOn c)) := by
  by_cases hb : (s.ch c).bound = some h
  · cases hbind : (s.ch c).binding with
    | none => simp [Channel.bound, hbind] at hb
    | holding b =>
      have hhandle : b.handle = h := by simpa [Channel.bound, hbind] using hb
      exact .inr ⟨hb, .inr (State.forceRelease_of_holding hbind hhandle)⟩
    | departing d =>
      have hhandle : d.handle = h := by simpa [Channel.bound, hbind] using hb
      by_cases hr : ∃ hold, (s.ch c).request = some (.release hold)
      · obtain ⟨hold, hr⟩ := hr
        exact .inr ⟨hb, .inl ⟨hold, State.forceRelease_of_departing hbind hhandle hr⟩⟩
      · refine .inl ⟨?_, fun hl => absurd (Channel.release_of_departing hl hbind) hr⟩
        simp only [State.forceRelease, hbind, hhandle, bne_self_eq_false, Bool.false_eq_true, if_false]
        split
        next hold hr' => exact absurd ⟨hold, hr'⟩ hr
        next => rfl
  · exact .inl ⟨State.forceRelease_of_unbound hb, fun _ => hb⟩

/-- A forced release leaves everything outside the releases. -/
theorem State.outside_forceRelease (s : State) (h : Handle) (c : Ch) : (s.forceRelease h c).outside = s.outside := by
  obtain ⟨heq, -⟩ | ⟨-, ⟨hold, heq⟩ | heq⟩ := s.forceRelease_cases h c <;> simp [heq]

/-- A forced release at one channel leaves the others. -/
theorem servesApart_forceRelease (h : Handle) : ServesApart fun s c => s.forceRelease h c := by
  intro s c d hd
  obtain ⟨heq, -⟩ | ⟨-, ⟨hold, heq⟩ | heq⟩ := s.forceRelease_cases h c
  · simp only [heq]
  · simp only [heq, State.view_serveRelease_ne hd]
  · simp [heq, hd]

/-- A forced release leaves the other slots but for their counts. -/
theorem State.others_forceRelease (s : State) (h : Handle) (c : Ch) : (s.forceRelease h c).others h = s.others h := by
  obtain ⟨heq, -⟩ | ⟨hb, ⟨hold, heq⟩ | heq⟩ := s.forceRelease_cases h c
  · rw [heq]
  · rw [heq, State.others_serveRelease hb]
  · simp [heq]

/-- A forced release lowers the record's count once where the channel is bound to it (R110). -/
theorem State.retirement_forceRelease (hs : (s.record h).state ≠ .live) (hl : (s.ch c).bindingLaw = true) :
    (s.forceRelease h c).retirement h =
      if (s.ch c).bound == some h then (s.retirement h).lower h else s.retirement h := by
  obtain ⟨heq, hunbound⟩ | ⟨hb, hforced⟩ := s.forceRelease_cases h c
  · rw [heq, if_neg fun hb => hunbound hl (beq_iff_eq.1 hb)]
  · rw [if_pos (beq_iff_eq.2 hb)]
    obtain ⟨hold, heq⟩ | heq := hforced
    · rw [heq, State.retirement_serveRelease hs hb]
    · simp [heq, State.retirement_countDown]

end Forced

/-! ### The expiry (R125) -/

section Expiry

variable {s : State} {h : Handle}

/-- RETIRE_FORCED set, and the channels released from CH0 to CH5 as far as a list goes. -/
def State.forcedOver (s : State) (h : Handle) (l : List Ch) : State :=
  l.foldl (fun s c => s.forceRelease h c) (s.setDeviceFlag .retireForced)

theorem State.outside_forcedOver (s : State) (h : Handle) (l : List Ch) : (s.forcedOver h l).outside = s.outside :=
  List.foldlRecOn l _ (motive := fun (t : State) => t.outside = s.outside) rfl
    fun t ht c _ => (t.outside_forceRelease h c).trans ht

theorem State.others_forcedOver (s : State) (h : Handle) (l : List Ch) : (s.forcedOver h l).others h = s.others h :=
  List.foldlRecOn l _ (motive := fun (t : State) => t.others h = s.others h) rfl
    fun t ht c _ => (t.others_forceRelease h c).trans ht

/-- A channel is released as it stood at the expiry, and what stands at it then stays. -/
theorem State.view_forcedOver (s : State) (h : Handle) (c : Ch) :
    ∃ l1 l2, channels = l1 ++ c :: l2 ∧ (s.forcedOver h l1).view c = s.view c ∧
      (s.forcedOver h channels).view c = ((s.forcedOver h l1).forceRelease h c).view c :=
  (servesApart_forceRelease h).view_channels (s.setDeviceFlag .retireForced) c

/-- A RETIRING record has a binding (R117). -/
theorem State.count_pos_of_retiring (hl : s.retireLaw = true) (hslot : h.slot.toNat < 96)
    (hstate : (s.record h).state = .retiring) : 0 < (s.record h).count := by
  simp only [State.retireLaw, Bool.and_eq_true, List.all_eq_true, List.mem_range, Bool.or_eq_true, bne_iff_ne,
    decide_eq_true_eq] at hl
  obtain ⟨-, hbound⟩ := (hl.2 _ hslot).resolve_left (not_not_intro hstate)
  exact hbound

theorem State.not_live_of_currentRetiring (hr : s.currentRetiring h = true) : (s.record h).state ≠ .live := by
  simp only [State.currentRetiring, Bool.and_eq_true, beq_iff_eq] at hr
  exact fun hlive => SlotState.noConfusion (hlive.symm.trans hr.2)

/-- A channel released by force holds nothing and forms NONE (R107). -/
theorem Channel.binding_released (ch : Channel) : (released ch).binding = .none := by
  unfold released resizedFrom
  dsimp only
  split
  next => rfl
  next => split <;> rfl

theorem Channel.announced_released (ch : Channel) : (released ch).announced = Announced.nothing := by
  simp only [Channel.announced, Channel.binding_released]

/-- The laws that the expiry of a retire timer rests on, at a record with a pending-retire entry. -/
structure State.Expires (s : State) (h : Handle) : Prop where
  laws : ∀ c, (s.ch c).bindingLaw = true
  current : s.current h = true
  retiring : (s.record h).state = .retiring
  counted : (s.record h).count = channels.countP fun c => (s.ch c).bound == some h
  bound : 0 < (s.record h).count

theorem State.Expires.of_lawful (hchannels : s.channelsLawful = true) (hcatalogue : s.catalogueLawful = true)
    (hentry : (s.retiring.any fun e => e.handle == h) = true) : s.Expires h := by
  obtain ⟨hretire, hbinding⟩ := State.catalogueLawful_retire hcatalogue
  obtain ⟨e, he, hhandle⟩ := List.any_eq_true.1 hentry
  have hretiring := State.currentRetiring_of_mem hretire he
  rw [beq_iff_eq.1 hhandle] at hretiring
  simp only [State.currentRetiring, Bool.and_eq_true, beq_iff_eq] at hretiring
  obtain ⟨hc, hstate⟩ := hretiring
  refine ⟨fun c => ((s.ch c).lawful_iff.1 (s.channelsLawful_iff.1 hchannels c)).1, hc, hstate,
    State.count_eq_boundTo hbinding hc, State.count_pos_of_retiring hretire (State.slot_lt_of_current hc) hstate⟩

theorem State.Expires.not_live (hx : s.Expires h) : (s.record h).state ≠ .live := by
  rw [hx.retiring]
  exact nofun

/-- The count is lowered once for each channel that is bound to the record. -/
theorem State.Expires.retirement_forcedOver (hx : s.Expires h) {l : List Ch} (hl : l.Nodup) :
    (s.forcedOver h l).retirement h =
      (Retirement.lower h)^[l.countP fun c => (s.ch c).bound == some h] ((s.setDeviceFlag .retireForced).retirement h) := by
  have hfold := (servesApart_forceRelease h).retirement_foldl (p := fun ch => ch.bound == some h)
    (fun u c hu hc => State.retirement_forceRelease hu hc) hl (s := s.setDeviceFlag .retireForced) hx.not_live
    fun c _ => hx.laws c
  exact hfold

theorem State.Expires.current_retirement (hx : s.Expires h) :
    ((s.setDeviceFlag .retireForced).retirement h).current h = true := hx.current

/-- While a bound channel is still to be released the record is RETIRING. -/
theorem State.Expires.currentRetiring_forcedOver (hx : s.Expires h) {l1 l2 : List Ch} {c : Ch}
    (hl : channels = l1 ++ c :: l2) (hb : (s.ch c).bound = some h) : (s.forcedOver h l1).currentRetiring h = true := by
  have hnodup : l1.Nodup := (List.nodup_append.1 (hl ▸ nodup_channels)).1
  have hremain : (l1.countP fun c => (s.ch c).bound == some h) < (s.record h).count := by
    rw [hx.counted, hl, List.countP_append, List.countP_cons, hb]
    simp
  obtain ⟨hrecord, -, -⟩ := Retirement.mk.inj ((hx.retirement_forcedOver hnodup).trans
    (Retirement.iterate_lower_of_lt hx.current_retirement hremain))
  rw [State.currentRetiring_eq (State.slot_lt_of_current hx.current), hrecord]
  have hgen : ((s.setDeviceFlag .retireForced).record h).gen = h.gen := State.gen_of_current hx.current
  have hstate : ((s.setDeviceFlag .retireForced).record h).state = .retiring := hx.retiring
  simp [State.retirement, hgen, hstate]

/-- The release of the last bound channel completes the retirement (R123, R125). -/
theorem State.Expires.retirement_all (hx : s.Expires h) :
    (s.forcedOver h channels).retirement h =
      ⟨freed (s.record h), s.retiring.filter fun e => e.handle != h, s.events.device ||| 0x3⟩ := by
  obtain ⟨n, hn⟩ := Nat.exists_eq_add_one.2 hx.bound
  have hdevice : s.events.device ||| 0x2 ||| 0x1 = s.events.device ||| 0x3 := by rw [BitVec.or_assoc]; rfl
  rw [hx.retirement_forcedOver nodup_channels, ← hx.counted, hn,
    Retirement.iterate_lower_all hx.current_retirement hx.retiring hn, ← hdevice]
  rfl

/-- The expiry is the forced releases, which leave no pending-retire entry to complete (R125). -/
theorem State.Expires.expireRetirement_eq (hx : s.Expires h) : s.expireRetirement h = s.forcedOver h channels := by
  obtain ⟨-, hretiring, -⟩ := Retirement.mk.inj hx.retirement_all
  have hnone : ((s.forcedOver h channels).retiring.any fun e => e.handle == h) = false := by
    rw [hretiring, List.any_eq_false]
    intro e he heq
    exact bne_iff_ne.1 (List.mem_filter.1 he).2 (beq_iff_eq.1 heq)
  unfold State.expireRetirement
  exact if_neg (ne_true_of_eq_false hnone)

/-- A channel bound to the record is released as it stood, while the record is RETIRING and the other slots stand but for their
counts. -/
theorem State.Expires.released_at (hx : s.Expires h) {c : Ch} (hb : (s.ch c).bound = some h) :
    ∃ u : State, u.view c = s.view c ∧ u.others h = s.others h ∧ u.currentRetiring h = true ∧
      (s.forcedOver h channels).view c = (u.forceRelease h c).view c := by
  obtain ⟨l1, l2, hl, hbefore, hafter⟩ := s.view_forcedOver h c
  exact ⟨_, hbefore, s.others_forcedOver h l1, hx.currentRetiring_forcedOver hl hb, hafter⟩

/-- A channel that is not bound to the record stands as it did. -/
theorem State.view_forcedOver_of_unbound {c : Ch} (hb : (s.ch c).bound ≠ some h) :
    (s.forcedOver h channels).view c = s.view c := by
  obtain ⟨l1, -, -, hbefore, hafter⟩ := s.view_forcedOver h c
  obtain ⟨hch, -, -⟩ := State.view_eq_iff.1 hbefore
  rw [hafter, State.forceRelease_of_unbound (by rw [hch]; exact hb), hbefore]

/-- A holding channel is in MEASURING with LOCK_LOST and BINDING_RELEASED, and announces NONE (R125). -/
theorem State.Expires.holding (hx : s.Expires h) {c : Ch} {b : Binding} (hbind : (s.ch c).binding = .holding b)
    (hb : b.handle = h) :
    (s.forcedOver h channels).ch c = released (s.ch c) ∧
      ((s.forcedOver h channels).ann c).announced = Announced.nothing ∧
      ∀ f, (s.forcedOver h channels).hasFlag c f = (s.hasFlag c f || f == .lockLost || f == .bindingReleased) := by
  obtain ⟨u, hbefore, -, -, hafter⟩ := hx.released_at (c := c) (by rw [Channel.bound, hbind, ← hb])
  obtain ⟨hch, hflags, -⟩ := State.view_eq_iff.1 hbefore
  obtain ⟨hch', hflags', hann'⟩ := State.view_eq_iff.1 hafter
  have hreleased := State.forceRelease_of_holding (s := u) (by rw [hch]; exact hbind) hb
  rw [hch] at hreleased
  refine ⟨?_, ?_, fun f => ?_⟩
  · rw [hch', hreleased, State.ch_handOn, State.ch_setFlag, State.ch_setFlag, State.ch_setCh_same]
  · rw [hann', hreleased, State.handOn_announced, State.ch_setFlag, State.ch_setFlag, State.ch_setCh_same,
      Channel.announced_released]
  · have hkept : ((u.countDown h).setCh c (released (s.ch c))).hasFlag c f = s.hasFlag c f :=
      State.hasFlag_congr ((u.flagsOf_countDown h c).trans hflags) f
    rw [State.hasFlag_congr hflags', hreleased, State.hasFlag_congr (State.flagsOf_handOn _ c c), State.hasFlag_setFlag,
      State.hasFlag_setFlag, hkept]
    simp only [beq_self_eq_true, Bool.true_and]

/-- A departing channel has its posted release served as at a grant (R111, R125). -/
theorem State.Expires.departing (hx : s.Expires h) {c : Ch} {d : Departing} {hold : HoldOption}
    (hbind : (s.ch c).binding = .departing d) (hd : d.handle = h) (hr : (s.ch c).request = some (.release hold)) :
    (s.forcedOver h channels).ch c = (releaseNext c hold s).ch c ∧
      (s.forcedOver h channels).flagsOf c = (releaseNext c hold s).flagsOf c ∧
      ((s.forcedOver h channels).ann c).announced = announcedOf ((s.forcedOver h channels).ch c) := by
  have hb : (s.ch c).bound = some h := by rw [Channel.bound, hbind, ← hd]
  obtain ⟨u, hbefore, hothers, hretiring, hafter⟩ := hx.released_at hb
  obtain ⟨hch, hflags, -⟩ := State.view_eq_iff.1 hbefore
  obtain ⟨hch', hflags', hann'⟩ := State.view_eq_iff.1 hafter
  have hserved : u.forceRelease h c = u.serveRelease c hold :=
    State.forceRelease_of_departing (by rw [hch]; exact hbind) hd (by rw [hch]; exact hr)
  have hgranted : (grantCh s c).serveRelease c hold = releaseNext c hold s :=
    State.serveRelease_eq (by rw [Channel.holding, hbind])
  have hu : (u.record h).state ≠ .live := State.not_live_of_currentRetiring hretiring
  have hs : ((grantCh s c).record h).state ≠ .live := hx.not_live
  have hbound : ((grantCh s c).ch c).bound = some h := hb
  have hretiring' : (grantCh s c).currentRetiring h = true := by
    rw [State.currentRetiring, Bool.and_eq_true, beq_iff_eq]
    exact ⟨hx.current, hx.retiring⟩
  have hsame : u.boundRetiring ((grantCh s c).ch c).bound = (grantCh s c).boundRetiring ((grantCh s c).ch c).bound := by
    simp only [hbound, State.boundRetiring, Option.any_some, hretiring, hretiring']
  have hmade : ∀ f, (grantCh s c).heldBy c hold = some f →
      (u.rebindCounts ((grantCh s c).ch c).bound f).bindingTo f .hold =
        ((grantCh s c).rebindCounts ((grantCh s c).ch c).bound f).bindingTo f .hold := fun f hheld => by
    rw [hbound]
    exact State.bindingTo_rebindCounts
      (State.slot_ne_of_currentLive hs (State.currentLive_of_heldBy hs hbound hheld)) hothers
  obtain ⟨hsameCh, hsameFlags⟩ := State.serveRelease_congr (u := u) (v := grantCh s c) hch hflags hsame
    (State.heldBy_congr hu hs hothers hch hb) hmade
  refine ⟨?_, ?_, ?_⟩
  · rw [hch', hserved, hsameCh, hgranted]
  · rw [hflags', hserved, hsameFlags, hgranted]
  · rw [hann', hch', hserved, State.announced_serveRelease, Channel.announced_eq]

/-- No channel is bound to the record after the expiry. -/
theorem State.Expires.bound_ne (hx : s.Expires h) (c : Ch) : ((s.forcedOver h channels).ch c).bound ≠ some h := by
  by_cases hb : (s.ch c).bound = some h
  · obtain ⟨u, hbefore, -, hretiring, hafter⟩ := hx.released_at hb
    obtain ⟨hch, -, -⟩ := State.view_eq_iff.1 hbefore
    rw [(State.view_eq_iff.1 hafter).1]
    obtain ⟨-, hunbound⟩ | ⟨hbound, ⟨hold, heq⟩ | heq⟩ := u.forceRelease_cases h c
    · exact absurd (hch ▸ hb) (hunbound (hch ▸ hx.laws c))
    · rw [heq]
      exact State.bound_serveRelease_ne (State.not_live_of_currentRetiring hretiring) hbound
    · rw [heq, State.ch_handOn, State.ch_setFlag, State.ch_setFlag, State.ch_setCh_same, Channel.bound,
        Channel.binding_released]
      exact nofun
  · rw [(State.view_eq_iff.1 (State.view_forcedOver_of_unbound hb)).1]
    exact hb

end Expiry

/-- Settles O43: every bound channel is released while the record is RETIRING still, and the last release completes the
retirement. -/
theorem retireTimerForcesTheRelease : Obligations.RetireTimerForcesTheRelease := by
  intro h s hchannels hcatalogue hentry
  have hx := State.Expires.of_lawful hchannels hcatalogue hentry
  have hout := s.outside_forcedOver h channels
  obtain ⟨hrecord, hretiring, hdevice⟩ := Retirement.mk.inj hx.retirement_all
  have hexec : exec (.retireTimerExpiry h) s = .next (s.forcedOver h channels) := by
    have hrow : exec (.retireTimerExpiry h) s =
        .next (if s.retiring.any fun e => e.handle == h then s.expireRetirement h else s) := rfl
    rw [hrow, if_pos hentry, hx.expireRetirement_eq]
  refine ⟨_, hexec, ?current, hrecord, ?slots, hretiring, hdevice, ?enables, ?deviceEnables, ?pinDisable, hx.bound_ne,
    ?elsewhere, fun c b hbind hb => hx.holding hbind hb, fun c d hold hbind hd hr => hx.departing hbind hd hr, ?index, ?edits,
    ?granted, ?host, ?monitor, State.sameOutside_of_outside hout⟩
  case current =>
    have hfree : ((s.forcedOver h channels).slot h.slot.toNat).state = .free := congrArg Slot.state hrecord
    simp [State.current, hfree]
  case slots =>
    intro m hm
    exact Slot.eq_withCount_of_uncounted (State.others_eq_iff.1 (s.others_forcedOver h channels) m hm)
  case enables => exact fun c => State.eq_of_outside hout (State.enablesOf · c) fun _ => rfl
  case deviceEnables => exact State.eq_of_outside hout (fun x => x.events.deviceEnables) fun _ => rfl
  case pinDisable => exact State.eq_of_outside hout (fun x => x.events.pinDisable) fun _ => rfl
  case elsewhere =>
    intro c hb
    obtain ⟨hch, hflags, -⟩ := State.view_eq_iff.1 (State.view_forcedOver_of_unbound hb)
    exact ⟨hch, hflags⟩
  case index => exact State.eq_of_outside hout State.index fun _ => rfl
  case edits => exact State.eq_of_outside hout State.edits fun _ => rfl
  case granted => exact State.eq_of_outside hout State.granted fun _ => rfl
  case host => exact State.eq_of_outside hout State.host fun _ => rfl
  case monitor => exact State.eq_of_outside hout State.monitor fun _ => rfl

end Sys2Proof.Machine
end

section
/-! PROOFS. The substitute generator's events (R132 to R134), RUNNING and QUIET. -/

namespace Sys2Proof.Machine

open Sys2Proof.Claims

/-- A channel replaced by itself leaves the state as it was. -/
theorem State.setCh_ch (s : State) (c : Ch) : s.setCh c (s.ch c) = s := by
  simp [State.setCh, State.ch]

/-! ### The generator QUIET (entry 3) -/

section Quiet

variable {ch : Channel} (hg : ch.generator = none)
include hg

theorem Channel.substituteLine_of_quiet : ch.substituteLine = ch := by
  simp only [Channel.substituteLine, hg]

theorem Channel.endSubPulse_of_quiet : ch.endSubPulse = ch := by
  simp only [Channel.endSubPulse, hg]

end Quiet

theorem State.substituteFrameStart_of_quiet {s : State} {c : Ch} (hg : (s.ch c).generator = none) :
    s.substituteFrameStart c = s := by
  simp only [State.substituteFrameStart, hg]

/-! ### The generator RUNNING -/

/-- The lines of a generator's field are R132's. -/
theorem Generator.fieldLines_eq (g : Generator) : g.fieldLines = Claims.fieldOf g := by
  unfold Generator.fieldLines Claims.fieldOf
  cases g.setting.scan <;> rfl

/-- The adoption of an amended body by a holding channel leaves the binding's handle and origin. -/
theorem Channel.takeUp_of_holding {ch : Channel} {b : Binding} (hb : ch.binding = .holding b) (body : Body) (rev : Byte) :
    ch.takeUp body rev = { ch with binding := .holding { b with body := body, revSeen := rev }, reverify := none } := by
  simp only [Channel.takeUp, hb]

section Running

variable {s : State} {c : Ch} {g : Generator} (hg : (s.ch c).generator = some g)
include hg

/-- The end of a line period follows R132 and R133 in each phase: a rest ends in a substitute frame start, one that is already
due stays due, and a line in progress is followed by a line of its field, by the second field, or by a frame start. -/
theorem State.setCh_substituteLine : s.setCh c (s.ch c).substituteLine = substituteLineNext c g s := by
  unfold Channel.substituteLine substituteLineNext
  cases hphase : g.phase with
  | resting => simp [hg, hphase]
  | frameDue => simp [hg, hphase, State.setCh_ch]
  | generating =>
    simp only [hg, hphase, Generator.fieldLines_eq, Bool.and_eq_true, decide_eq_true_eq, Bool.not_eq_true',
      reduceCtorEq, if_false]
    by_cases hline : g.line + 1 < Claims.fieldOf g
    · simp only [if_pos hline, Channel.beginSubLine, hphase, Polarity.not_active]
      rfl
    · by_cases hfield : g.setting.scan = .interlaced ∧ g.second = false
      · simp only [if_neg hline, if_pos hfield, Channel.beginSecondField, hphase, Polarity.active]
      · simp only [if_neg hline, if_neg hfield]

/-- The end of the line pulse follows R133: SUB_LM returns where lines are generated, and rests in the other phases. -/
theorem State.setCh_endSubPulse : s.setCh c (s.ch c).endSubPulse = pulseEndNext c g s := by
  unfold Channel.endSubPulse pulseEndNext
  cases hphase : g.phase with
  | generating => simp [hg, hphase, Polarity.not_active]
  | resting | frameDue => simp [hg, hphase, State.setCh_ch]

/-- A substitute frame start follows R134: with no amendment pending the frame begins under the setting in force, and a pending
one is adopted first. -/
theorem State.substituteFrameStart_of_running {b : Binding} (hb : (s.ch c).binding = .holding b) :
    s.substituteFrameStart c = frameStartNext c g b s := by
  unfold State.substituteFrameStart frameStartNext
  cases hpending : (s.ch c).reverify with
  | none => simp only [hg, hpending, Channel.beginSubFrame, Polarity.active]
  | some amendment =>
    simp only [hg, hpending, Channel.takeUp_of_holding hb, Channel.takeSetting_eq, Body.frameSetting_eq]

end Running

/-- Settles O58: each event is that of a RUNNING generator or of a QUIET one. -/
theorem substituteGeneratorFollowsItsFrame : Obligations.SubstituteGeneratorFollowsItsFrame := by
  intro c s
  refine ⟨fun g hg => ⟨?line, ?pulse, fun b hb => ?frame⟩, fun hg => ⟨?quietLine, ?quietPulse, ?quietFrame⟩⟩
  case line => exact congrArg Host.Outcome.next (State.setCh_substituteLine hg)
  case pulse => exact congrArg Host.Outcome.next (State.setCh_endSubPulse hg)
  case frame => exact congrArg Host.Outcome.next (State.substituteFrameStart_of_running hg hb)
  case quietLine =>
    refine congrArg Host.Outcome.next ?_
    rw [Channel.substituteLine_of_quiet hg, State.setCh_ch]
  case quietPulse =>
    refine congrArg Host.Outcome.next ?_
    rw [Channel.endSubPulse_of_quiet hg, State.setCh_ch]
  case quietFrame => exact congrArg Host.Outcome.next (State.substituteFrameStart_of_quiet hg)

end Sys2Proof.Machine
end

section
/-! PROOFS. The announcement frame and the announce link's outputs (R144, R167): the levels of AN_FRM, AN_DAT and AN_CLK by what the
link holds, the places of the frame's fields, and the parity that its check bits give. -/

namespace Sys2Proof.Machine

/-! ### The link outputs (R144) -/

section LinkOutputs

variable {s : State}

/-- AN_FRM is low on an IDLE link and in the rest after a completion. -/
theorem State.anFrm_eq_false (hlow : s.link = none ∨ 0 < s.linkRest) : s.anFrm = false := by
  rcases hlow with hidle | hrest
  · simp [State.anFrm, hidle]
  · simp [State.anFrm, hrest.ne']

/-- AN_DAT is low wherever AN_FRM is. -/
theorem State.anDat_eq_false (hfrm : s.anFrm = false) : s.anDat = false := by
  rw [State.anDat, hfrm, Bool.false_and]

/-- AN_CLK is low wherever AN_FRM is. -/
theorem State.anClk_eq_false (hfrm : s.anFrm = false) : s.anClk = false := by
  rw [State.anClk, hfrm, Bool.false_and]

variable {k : Sending} (hk : s.link = some k) (hrest : s.linkRest = 0)
include hk hrest

/-- With a frame on the link and no rest left, AN_FRM is high for the frame's 320 REFCLK periods. -/
theorem State.anFrm_iff_of_sending : s.anFrm = true ↔ k.elapsed < 320 := by
  rw [State.anFrm, hk, hrest, beq_self_eq_true, Bool.true_and, Option.any_some]
  exact decide_eq_true_iff

/-- With a frame on the link, AN_DAT carries one bit of it for four REFCLK periods each, bit 79 first. -/
theorem State.anDat_iff_of_sending :
    s.anDat = true ↔ k.elapsed < 320 ∧ k.frame.getLsbD (79 - k.elapsed / 4) = true := by
  rw [State.anDat, Bool.and_eq_true, State.anFrm_iff_of_sending hk hrest, hk, Option.any_some]

/-- With a frame on the link, AN_CLK is high in the second half of each bit (entry 19). -/
theorem State.anClk_iff_of_sending : s.anClk = true ↔ k.elapsed < 320 ∧ 2 ≤ k.elapsed % 4 := by
  rw [State.anClk, Bool.and_eq_true, State.anFrm_iff_of_sending hk hrest, hk, Option.any_some, decide_eq_true_eq]

end LinkOutputs

/-! ### The fields of a frame (R167) -/

section Frame

variable (c : Ch) (seq : BitVec 4) (a : Announced)

/-- Above its two check bits, a frame is its fields in R167's order. -/
theorem extractLsb'_announceFrame {start : Nat} (len : Nat) (hstart : 2 ≤ start) :
    (announceFrame c seq a).extractLsb' start len =
      (BitVec.ofNat 3 c.val ++ seq ++ a.qualifier.code ++ a.handle.slot.setWidth 7 ++ a.handle.gen ++ a.rev ++ a.tag ++
        BitVec.ofNat 16 a.linePeriod ++ BitVec.ofNat 12 a.frameLines ++
          BitVec.ofBool (a.scan == .interlaced)).extractLsb' (start - 2) len := by
  rw [announceFrame, BitVec.extractLsb'_append_eq_of_le (by omega), BitVec.extractLsb'_append_eq_of_le (by omega)]
  rfl

/-- Above its two check bits, a frame's bits are those of `announceFields`. -/
theorem getLsbD_announceFrame_add_two (i : Nat) :
    (announceFrame c seq a).getLsbD (i + 2) = (announceFields c seq a).getLsbD i := by
  rw [announceFrame, BitVec.getLsbD_append, if_neg (by omega), BitVec.getLsbD_append, if_neg (by omega)]
  rfl

/-- Bit 1 of a frame tells whether the ones of its fields' odd bits are odd in number. -/
theorem getLsbD_announceFrame_one : (announceFrame c seq a).getLsbD 1 = oddOnes (announceFields c seq a) 1 39 := by
  rw [announceFrame, BitVec.getLsbD_append, if_neg (by decide), BitVec.getLsbD_append, if_pos (by decide),
    BitVec.getLsbD_ofBool]
  rfl

/-- Bit 0 of a frame tells whether the ones of its fields' even bits are odd in number. -/
theorem getLsbD_announceFrame_zero : (announceFrame c seq a).getLsbD 0 = oddOnes (announceFields c seq a) 0 39 := by
  rw [announceFrame, BitVec.getLsbD_append, if_pos (by decide), BitVec.getLsbD_ofBool]
  rfl

/-- SCAN is the lowest bit of the fields. -/
theorem getLsbD_announceFields_zero : (announceFields c seq a).getLsbD 0 = (a.scan == .interlaced) := by
  rw [announceFields, BitVec.getLsbD_append, if_pos (by decide), BitVec.getLsbD_ofBool]
  rfl

/-- The fields of more than one bit stand at R167's places: each place is met by leaving out the fields below it. -/
theorem announceFrame_fields :
    let f := announceFrame c seq a
    f.extractLsb' 77 3 = BitVec.ofNat 3 c.val ∧ f.extractLsb' 73 4 = seq ∧ f.extractLsb' 70 3 = a.qualifier.code ∧
      f.extractLsb' 63 7 = a.handle.slot.setWidth 7 ∧ f.extractLsb' 55 8 = a.handle.gen ∧ f.extractLsb' 47 8 = a.rev ∧
      f.extractLsb' 31 16 = a.tag ∧ f.extractLsb' 15 16 = BitVec.ofNat 16 a.linePeriod ∧
      f.extractLsb' 3 12 = BitVec.ofNat 12 a.frameLines := by
  simp only [extractLsb'_announceFrame, BitVec.extractLsb'_append_eq_of_le, BitVec.extractLsb'_append_eq_right,
    BitVec.extractLsb'_eq_self, Nat.reduceLeDiff, Nat.reduceSub, and_self]

/-! ### The check bits (R167) -/

/-- `oddOnes` is the parity of the count of ones. -/
theorem oddOnes_eq_decide (x : BitVec 78) (bit count : Nat) :
    oddOnes x bit count = decide (((List.range count).countP fun k => x.getLsbD (bit + 2 * k)) % 2 = 1) := by
  induction count generalizing bit with
  | zero => rfl
  | succ count ih =>
    have hshift : ((fun k => x.getLsbD (bit + 2 * k)) ∘ Nat.succ) = fun k => x.getLsbD (bit + 2 + 2 * k) :=
      funext fun k => congrArg x.getLsbD (by omega)
    rw [oddOnes, ih, List.range_succ_eq_map, List.countP_cons, List.countP_map, hshift, Nat.mul_zero, Nat.add_zero]
    cases x.getLsbD bit with
    | false => simp
    | true =>
      rw [Bool.true_xor, if_pos rfl, ← decide_not, decide_eq_decide]
      omega

/-- Bits led by a check bit that tells whether the ones among the others are odd in number hold an even number of ones. -/
theorem countP_ones_even {bits : Nat → Bool} {x : BitVec 78} {bit count : Nat} (hcheck : bits 0 = oddOnes x bit count)
    (hbits : ∀ k, bits (k + 1) = x.getLsbD (bit + 2 * k)) : (List.range (count + 1)).countP bits % 2 = 0 := by
  have hshift : bits ∘ Nat.succ = fun k => x.getLsbD (bit + 2 * k) := funext hbits
  rw [List.range_succ_eq_map, List.countP_cons, List.countP_map, hshift, hcheck, oddOnes_eq_decide]
  simp only [decide_eq_true_eq]
  split <;> omega

/-- The ones of a frame's odd bits, check bit 1 with them, are even in number. -/
theorem announceFrame_odd_bits_even :
    ((List.range 40).countP fun k => (announceFrame c seq a).getLsbD (2 * k + 1)) % 2 = 0 := by
  refine countP_ones_even (getLsbD_announceFrame_one c seq a) fun k => ?_
  rw [← getLsbD_announceFrame_add_two, show 2 * (k + 1) + 1 = 1 + 2 * k + 2 by omega]

/-- The ones of a frame's even bits, check bit 0 with them, are even in number. -/
theorem announceFrame_even_bits_even :
    ((List.range 40).countP fun k => (announceFrame c seq a).getLsbD (2 * k)) % 2 = 0 := by
  refine countP_ones_even (getLsbD_announceFrame_zero c seq a) fun k => ?_
  rw [← getLsbD_announceFrame_add_two, show 2 * (k + 1) = 0 + 2 * k + 2 by omega]

end Frame

/-- Settles O14: the outputs by what the link holds, then the frame's fields, its SCAN bit and its check bits. -/
theorem announcementFrameFields : Obligations.AnnouncementFrameFields := by
  refine ⟨fun s hlow => ?low, fun s k hk hrest => ?sending, fun c seq a => ?frame⟩
  case low =>
    have hfrm : s.anFrm = false := State.anFrm_eq_false hlow
    exact ⟨hfrm, State.anDat_eq_false hfrm, State.anClk_eq_false hfrm⟩
  case sending =>
    exact ⟨State.anFrm_iff_of_sending hk hrest, State.anDat_iff_of_sending hk hrest, State.anClk_iff_of_sending hk hrest⟩
  case frame =>
    obtain ⟨hchannel, hseq, hqualifier, hslot, hgen, hrev, htag, hperiod, hlines⟩ := announceFrame_fields c seq a
    have hscan : (announceFrame c seq a).getLsbD 2 = (a.scan == .interlaced) :=
      (getLsbD_announceFrame_add_two c seq a 0).trans (getLsbD_announceFields_zero c seq a)
    exact ⟨hchannel, hseq, hqualifier, hslot, hgen, hrev, htag, hperiod, hlines, hscan,
      announceFrame_odd_bits_even c seq a, announceFrame_even_bits_even c seq a⟩

end Sys2Proof.Machine
end

section
/-! PROOFS. The reset pins, the first byte and the end of a frame, the end of a read, and the two transports (R149 to R155, R160,
R161). -/

namespace Sys2Proof.Machine

open Sys2Proof.Claims

/-! ### A full reset (R160, R161) -/

section Reset

variable (s : State)

/-- The part as a full reset leaves it, with what the model keeps beside the blocks (entries 1, 6, 8 and 23). -/
theorem State.fullReset_eq :
    s.fullReset = { State.reset with
      host := { PortState.initial with lost := s.host.slot }, monitor := { PortState.initial with lost := s.monitor.slot },
      resetLow := s.resetLow, maLevel := s.maLevel, monitorAddress := if s.maLevel then 0x3B else 0x3A,
      choices := s.choices, pending := s.pending } := rfl

@[simp] theorem State.slot_fullReset (p : Port) : (s.fullReset.port p).slot = .empty := by cases p <;> rfl

end Reset

/-- Settles O4: the first two rows are the full reset of the part with its pins at their new levels. -/
theorem resetPinsGiveTheFullResetState : Obligations.ResetPinsGiveTheFullResetState := fun ma s =>
  ⟨congrArg Host.Outcome.next (State.fullReset_eq { s with resetLow := false, maLevel := ma }),
    congrArg Host.Outcome.next (State.fullReset_eq { s with resetLow := true }), rfl⟩

/-! ### Ports replaced -/

section Replaced

variable (s : State) (p : Port)

@[simp] theorem State.setPort_setPort (v w : PortState) : (s.setPort p v).setPort p w = s.setPort p w := by cases p <;> rfl

@[simp] theorem State.setPort_port : s.setPort p (s.port p) = s := by cases p <;> rfl

end Replaced

/-! ### The first byte of a frame (R151, R160) -/

/-- The part as the first byte of a frame finds it: with a waiting full reset taken into effect (R160). -/
def State.atFirstByte (s : State) : State := if s.resetWaiting then s.fullReset else s

section FirstByte

variable {s : State} (p : Port)

theorem State.atFirstByte_of_waiting (hw : s.resetWaiting = true) : s.atFirstByte = s.fullReset := if_pos hw

/-- A port takes a frame where the first byte finds its slot EMPTY. -/
theorem State.takesFrame_eq : s.takesFrame p = decide ((s.atFirstByte.port p).slot = .empty) := by
  unfold State.takesFrame State.atFirstByte
  cases s.resetWaiting with
  | false => simp
  | true => simp

/-- The first byte of a frame that an EMPTY slot takes (R149, R151). -/
theorem State.frameStart_of_empty (hl : s.resetLow = false) (he : (s.atFirstByte.port p).slot = .empty) :
    s.frameStart p =
      s.atFirstByte.setPort p { s.atFirstByte.port p with slot := .receiving, refusing := false, lost := .empty } := by
  unfold State.frameStart
  rw [hl]
  change (match (s.atFirstByte.port p).slot with | .empty => _ | _ => _) = _
  rw [he]
  rfl

/-- The first byte of a frame that any other slot refuses (R151). -/
theorem State.frameStart_of_occupied (hl : s.resetLow = false) (ho : (s.atFirstByte.port p).slot ≠ .empty) :
    s.frameStart p = s.atFirstByte.setPort p { s.atFirstByte.port p with refusing := true, lost := .empty } := by
  unfold State.frameStart
  rw [hl]
  change (match (s.atFirstByte.port p).slot with | .empty => _ | _ => _) = _
  split
  next he => exact absurd he ho
  next => rfl

/-- The row: the first byte, and what the transport returns for it (R154, R155). -/
theorem exec_commandFrameStart (hl : s.resetLow = false) :
    exec (.commandFrameStart p) s = .next ((s.frameStart p).setSent p
      (if p = .host then [intakeByte (s.takesFrame p)] else []) (if p = .host then [] else [s.takesFrame p])) := by
  change execCommandFrameStart p s = _
  unfold execCommandFrameStart
  rw [hl]
  cases p <;> rfl

end FirstByte

/-- Settles O15: the slot that the first byte finds takes the frame or refuses it. -/
theorem frameStartTakesOrRefuses : Obligations.FrameStartTakesOrRefuses := by
  intro p s hl
  have hfirst : (if s.resetWaiting then s.fullReset else s) = s.atFirstByte := rfl
  rw [exec_commandFrameStart p hl, State.takesFrame_eq]
  simp only [hfirst]
  by_cases he : (s.atFirstByte.port p).slot = .empty
  · rw [State.frameStart_of_empty p hl he]
    simp [State.setSent, he, intakeByte]
  · rw [State.frameStart_of_occupied p hl he]
    simp [State.setSent, he, intakeByte, Status.code]

/-! ### The end of a frame that no slot takes (R151, R161) -/

section FrameEnd

variable {s : State} (p : Port) (bytes : List Byte)

theorem State.frameEnd_of_resetLow (hl : s.resetLow = true) : s.frameEnd p bytes = s := by
  simp [State.frameEnd, hl]

theorem State.frameEnd_of_refusing (hl : s.resetLow = false) (hr : (s.port p).refusing = true) :
    s.frameEnd p bytes = s.setPort p { s.port p with refusing := false } := by
  simp [State.frameEnd, hl, hr]

theorem State.frameEnd_of_no_frame (hr : (s.port p).refusing = false) (hx : (s.port p).slot ≠ .receiving) :
    s.frameEnd p bytes = s := by
  simp [State.frameEnd, hr, hx]

end FrameEnd

/-- Settles O17, from the three ways in which a frame's end does not reach the intake checks. -/
theorem refusedFrameIsDiscarded : Obligations.RefusedFrameIsDiscarded := by
  intro p bytes s
  have hexec : exec (.commandFrameEnd p bytes) s = .next (s.frameEnd p bytes) := rfl
  rw [hexec]
  refine ⟨fun hl hr => ?refused, fun hr hx => ?none, fun hl => ⟨?low, ?start⟩⟩
  case refused => rw [State.frameEnd_of_refusing p bytes hl hr]
  case none => rw [State.frameEnd_of_no_frame p bytes hr hx]
  case low => rw [State.frameEnd_of_resetLow p bytes hl]
  case start => exact congrArg Host.Outcome.next (if_pos hl)

/-! ### Reads of a port (R153 to R155, R160) -/

section Reads

variable (s : State) (p : Port)

/-- What a read returns, in the rules' words (R153). -/
theorem CommandSlot.readAs_eq_readBegun (x : CommandSlot) (ready : Bool) : x.readAs ready = readBegun x ready := by
  cases ready <;> cases x <;> rfl

/-- What a read that begins now returns, in the rules' words (R153 to R155). -/
theorem PortState.readBytes_eq_bytesOf (x : PortState) (count : Nat) :
    x.readBytes count = bytesOf (match x.slot with | .ready r => r | y => notReadyOf y) count := by
  unfold PortState.readBytes PortState.response
  cases x.slot <;> rfl

/-- The end of a read that began before the slot was READY changes no slot (R153). -/
theorem State.endRead_notReady (taken : Nat) :
    s.endRead p false taken = s.setPort p
      { s.port p with lost := .empty, sent := bytesOf (notReadyOf (s.port p).slot) taken, acks := [] } := by
  unfold State.endRead
  rw [CommandSlot.readAs_eq_readBegun]
  rfl

/-- No read that began READY ends on a slot that is not READY (entry 3). -/
theorem State.endRead_ready_of_not_ready (taken : Nat) (hx : ∀ r, (s.port p).slot ≠ .ready r) :
    s.endRead p true taken = s := by
  unfold State.endRead
  rw [CommandSlot.readAs_eq_readBegun]
  cases hslot : (s.port p).slot with
  | ready r => exact absurd hslot (hx r)
  | empty => rfl
  | receiving => rfl
  | executing tag cmd => rfl

variable {s p}

/-- The end of a read that took a READY response (R153, R160). -/
theorem State.endRead_ready {r : Response} (taken : Nat) (hx : (s.port p).slot = .ready r) :
    s.endRead p true taken =
      if r.data.length + 4 ≤ taken then
        if s.resetWaiting ∧ p = .host then s.fullReset.setPort p { PortState.initial with sent := bytesOf r taken }
        else s.setPort p { s.port p with slot := .empty, lost := .empty, sent := bytesOf r taken, acks := [] }
      else s.setPort p { s.port p with lost := .empty, sent := bytesOf r taken, acks := [] } := by
  have hend : s.endRead p true taken = (s.readEnd p taken).setSent p (bytesOf r taken) [] := by
    unfold State.endRead
    rw [hx]
    rfl
  rw [hend]
  unfold State.readEnd
  rw [hx]
  dsimp only
  split
  next =>
    by_cases hreset : s.resetWaiting = true ∧ p = .host
    · obtain ⟨hw, rfl⟩ := hreset
      rw [hw]
      rfl
    · have hfree : (s.resetWaiting && p == .host) = false := by simpa using hreset
      simp [hreset, hfree, State.setSent]
  next => rfl

/-- The end of a read that a full reset cut changes no slot (R160). -/
theorem State.endCutRead_eq (ready : Bool) (after taken : Nat) :
    s.endCutRead p ready after taken =
      match (s.port p).slot, readBegun (s.port p).lost ready with
      | .empty, some r => s.setPort p { s.port p with lost := .empty, sent := cutBytesOf r after taken, acks := [] }
      | _, _ => s := by
  unfold State.endCutRead
  rw [CommandSlot.readAs_eq_readBegun]
  cases (s.port p).slot with
  | empty => cases readBegun (s.port p).lost ready <;> rfl
  | receiving => rfl
  | executing tag cmd => rfl
  | ready r => rfl

end Reads

/-- Settles O18, from what each course of a read ends with. -/
theorem readEndFreesTheSlot : Obligations.ReadEndFreesTheSlot := by
  intro p ready taken s
  refine ⟨fun hl => ⟨?whole, fun after => ?cut⟩, fun hl course => ?low⟩
  case whole =>
    have hexec : exec (.responseReadEnd p (.whole ready) taken) s = .next (s.endRead p ready taken) :=
      congrArg Host.Outcome.next (if_neg (by simp [hl]))
    rw [hexec]
    cases ready with
    | false =>
      rw [State.endRead_notReady]
      cases (s.port p).slot <;> rfl
    | true =>
      cases hx : (s.port p).slot with
      | ready r => rw [State.endRead_ready taken hx]
      | empty => rw [State.endRead_ready_of_not_ready _ _ _ (by simp [hx])]
      | receiving => rw [State.endRead_ready_of_not_ready _ _ _ (by simp [hx])]
      | executing tag cmd => rw [State.endRead_ready_of_not_ready _ _ _ (by simp [hx])]
  case cut =>
    have hexec : exec (.responseReadEnd p (.cut ready after) taken) s = .next (s.endCutRead p ready after taken) :=
      congrArg Host.Outcome.next (if_neg (by simp [hl]))
    exact hexec.trans (congrArg Host.Outcome.next (State.endCutRead_eq ready after taken))
  case low => exact congrArg Host.Outcome.next (if_pos hl)

/-! ### The two transports (R154, R155) -/

section Transports

variable {s : State}

/-- A COMMAND transaction with bytes is a frame's first byte and end (R154). -/
theorem State.hostTransaction_command (bytes : List Byte) (hl : s.resetLow = false) (hb : bytes ≠ []) :
    s.hostTransaction 0x5A bytes = ((s.frameStart .host).frameEnd .host bytes).setSent .host
      (0x00 :: List.replicate bytes.length (intakeByte (s.takesFrame .host))) [] := by
  simp [State.hostTransaction, hl, hb]

/-- A transaction of any type but READ RESPONSE that carries no frame sends zeros (R154). -/
theorem State.hostTransaction_zeros (type : Byte) (bytes : List Byte) (hl : s.resetLow = false) (ht : type ≠ 0xA5)
    (hno : ¬(type = 0x5A ∧ bytes ≠ [])) :
    s.hostTransaction type bytes =
      s.setSent .host (if type = 0x5A then [0x00] else List.replicate (bytes.length + 1) 0x00) [] := by
  by_cases hc : type = 0x5A
  · have hb : bytes = [] := by simpa [hc] using hno
    simp [State.hostTransaction, hl, hc, hb]
  · unfold State.hostTransaction
    rw [if_neg (by simp [hl]), if_neg hc, if_neg ht, if_neg hc]

/-- A READ RESPONSE transaction is a read (R154). -/
theorem State.hostTransaction_read (bytes : List Byte) (hl : s.resetLow = false) :
    s.hostTransaction 0xA5 bytes =
      (s.readEnd .host bytes.length).setSent .host (0x00 :: s.host.readBytes bytes.length) [] := by
  simp [State.hostTransaction, hl]

/-- The intake byte is BUSY where the slot is occupied and no full reset waits (R154, R160). -/
theorem State.intakeByte_takesFrame (p : Port) :
    intakeByte (s.takesFrame p) = if (s.port p).slot ≠ .empty ∧ s.resetWaiting = false then 0x03 else 0x00 := by
  unfold State.takesFrame intakeByte
  by_cases he : (s.port p).slot = .empty
  · simp [he]
  · cases hw : s.resetWaiting <;> simp [he, Status.code]

/-- The row of a write transfer outside reset (R155). -/
theorem exec_monitorWriteTransfer (address : BitVec 7) (bytes : List Byte) (hl : s.resetLow = false) :
    exec (.monitorWriteTransfer address bytes) s = .next (
      if address = s.monitorAddress then
        if bytes = [] then s.setSent .monitor [] [true]
        else ((s.frameStart .monitor).frameEnd .monitor bytes).setSent .monitor []
          (true :: List.replicate bytes.length (s.takesFrame .monitor))
      else s.setSent .monitor [] [false]) := by
  refine congrArg Host.Outcome.next ((if_neg (by simp [hl])).trans ?_)
  simp only [List.isEmpty_iff]

/-- The row of a read transfer outside reset (R155). -/
theorem exec_monitorReadTransfer (address : BitVec 7) (count : Nat) (hl : s.resetLow = false) :
    exec (.monitorReadTransfer address count) s = .next (
      if address = s.monitorAddress then (s.readEnd .monitor count).setSent .monitor (s.monitor.readBytes count) [true]
      else s.setSent .monitor [] [false]) :=
  congrArg Host.Outcome.next (if_neg (by simp [hl]))

end Transports

/-- Settles O19, from the three kinds of transaction. -/
theorem hostTransactionsByType : Obligations.HostTransactionsByType := by
  intro type bytes count s hl
  refine ⟨fun ht => ?command, ?read⟩
  case command =>
    have hexec : exec (.hostCommandTransaction type bytes) s = .next (s.hostTransaction type bytes) := rfl
    rw [hexec]
    by_cases hframe : type = 0x5A ∧ bytes ≠ []
    · obtain ⟨rfl, hb⟩ := hframe
      rw [if_pos ⟨rfl, hb⟩, State.hostTransaction_command bytes hl hb, State.intakeByte_takesFrame]
      rfl
    · rw [State.hostTransaction_zeros type bytes hl ht hframe, if_neg hframe]
      rfl
  case read =>
    have hexec : exec (.hostReadResponse count) s = .next (s.hostTransaction 0xA5 (List.replicate count 0x00)) := rfl
    rw [hexec, State.hostTransaction_read _ hl, List.length_replicate, PortState.readBytes_eq_bytesOf]
    rfl

/-- Settles O20: the address chooses between a transfer's meaning and the record of its refusal. -/
theorem monitorTransfersByAddress : Obligations.MonitorTransfersByAddress := by
  intro address bytes count s hl
  refine ⟨?write, ?read⟩
  case write =>
    rw [exec_monitorWriteTransfer address bytes hl]
    by_cases ha : address = s.monitorAddress
    · by_cases hb : bytes = []
      · rw [if_pos ha, if_pos hb, if_neg fun h => h.2 hb, decide_eq_true ha]
        rfl
      · rw [if_pos ha, if_neg hb, if_pos ⟨ha, hb⟩, State.takesFrame, Bool.decide_or, Bool.decide_eq_true]
        rfl
    · rw [if_neg ha, if_neg fun h => ha h.1, decide_eq_false ha]
      rfl
  case read =>
    rw [exec_monitorReadTransfer address count hl, PortState.readBytes_eq_bytesOf]
    rfl

end Sys2Proof.Machine
end

section
/-! PROOFS. The frame of a command comes back from the intake checks, what the end of a frame answers, and RESET DEVICE FULL (R150,
R152, R160, R163, R164). -/

namespace Sys2Proof.Machine

open Sys2Proof.Claims

/-! ### The check byte (R163) -/

section CheckByte

/-- A byte equal to the check register leaves it 0. -/
theorem crcByte_self (r : Byte) : crcByte r r = 0 := by
  unfold crcByte
  rw [BitVec.xor_self]
  decide

/-- The check byte makes the check of its whole frame end at zero. -/
theorem crcOf_withCheck_eq_zero (bytes : List Byte) : crcOf (withCheck bytes) = 0 := by
  rw [withCheck, crcOf, List.foldl_append]
  exact crcByte_self _

end CheckByte

/-! ### Parameters (R163, R164) -/

section Parameters

/-- The two bytes of a 16-bit parameter make it again. -/
theorem pair_wordBytes (v : BitVec 16) : pair (v.extractLsb' 8 8) (v.extractLsb' 0 8) = v := by
  rw [pair, BitVec.extractLsb'_append_extractLsb'_eq_extractLsb' (by omega)]
  exact BitVec.extractLsb'_eq_self

/-- The three bytes of a 24-bit parameter make it again. -/
theorem append_threeBytes (v : BitVec 24) :
    (v.extractLsb' 16 8 ++ v.extractLsb' 8 8 : BitVec 16) ++ v.extractLsb' 0 8 = v := by
  rw [BitVec.extractLsb'_append_extractLsb'_eq_extractLsb' (by omega),
    BitVec.extractLsb'_append_extractLsb'_eq_extractLsb' (by omega)]
  exact BitVec.extractLsb'_eq_self

/-- The six bitmaps of an event command, one by one. -/
theorem channelMaps_eq_six (m : ChannelMaps) : m = #v[m[0], m[1], m[2], m[3], m[4], m[5]] := by
  ext i hi
  match i, hi with
  | 0, _ | 1, _ | 2, _ | 3, _ | 4, _ | 5, _ => rfl

/-- A selector chooses between two siblings, of which the one beside selector 0 has another selector (R164). -/
theorem wellFormed_resetCommand (sel : Byte) : (resetCommand sel).wellFormed = true := by
  unfold resetCommand
  split
  next => rfl
  next hsel => exact bne_iff_ne.2 hsel

theorem wellFormed_listCommand (sel : Byte) (lp fl : BitVec 16) (scan : Byte) :
    (listCommand sel lp fl scan).wellFormed = true := by
  unfold listCommand
  split
  next => rfl
  next hsel => exact bne_iff_ne.2 hsel

theorem wellFormed_openCommand (sel : Byte) (h : Handle) : (openCommand sel h).wellFormed = true := by
  unfold openCommand
  split
  next => rfl
  next hsel => exact bne_iff_ne.2 hsel

/-- Each command code has the parameter length of R164. -/
theorem parameterLength_code (cmd : Cmd) : parameterLength cmd.code = some cmd.parameters.length := by
  cases cmd with
  | clearEvents m d => rw [channelMaps_eq_six m]; rfl
  | setEventMasks m d pin => rw [channelMaps_eq_six m]; rfl
  | _ => rfl

/-- No command has more parameter bytes than CONFIGURE CHANNEL (R164). -/
theorem length_parameters_le (cmd : Cmd) : cmd.parameters.length ≤ 20 := by
  have htable : ∀ code : Byte, ∀ n ∈ parameterLength code, n ≤ 20 := by decide
  exact htable cmd.code _ (parameterLength_code cmd)

/-- The parameter bytes of a command are read as that command (R164). -/
theorem parseCommand_parameters {cmd : Cmd} (hw : cmd.wellFormed = true) :
    parseCommand cmd.code cmd.parameters = some cmd := by
  cases cmd with
  | setupDevice f d l r a => exact congrArg (fun v => some (Cmd.setupDevice v d l r a)) (append_threeBytes f)
  | resetOther sel => exact congrArg some (if_neg (bne_iff_ne.1 hw))
  | listAfter sel lp fl scan =>
    refine congrArg some ((if_neg (bne_iff_ne.1 hw)).trans ?_)
    rw [pair_wordBytes, pair_wordBytes]
  | findFormat lp fl scan sw lpol vpol k =>
    change some (Cmd.findFormat (pair _ _) (pair _ _) scan (pair _ _) lpol vpol k) = _
    rw [pair_wordBytes, pair_wordBytes, pair_wordBytes]
  | openEdit sel h => exact congrArg some (if_neg (bne_iff_ne.1 hw))
  | setField e f v => exact congrArg (fun x => some (Cmd.setField e f x)) (pair_wordBytes v)
  | configureChannel c r =>
    exact congrArg (fun v => some (Cmd.configureChannel c { r with neighbourhood := v })) (pair_wordBytes r.neighbourhood)
  | clearEvents m d =>
    rw [channelMaps_eq_six m]
    change some (Cmd.clearEvents #v[pair _ _, pair _ _, pair _ _, pair _ _, pair _ _, pair _ _] d) = _
    simp only [pair_wordBytes]
  | setEventMasks m d pin =>
    rw [channelMaps_eq_six m]
    change some (Cmd.setEventMasks #v[pair _ _, pair _ _, pair _ _, pair _ _, pair _ _, pair _ _] d pin) = _
    simp only [pair_wordBytes]
  | _ => rfl

/-- Parameter bytes of a code's length are read as a command, which is none of selector 0 beside its sibling: one case for each
code of R164, in its order. -/
theorem parseCommand_total {code : Byte} {ps : List Byte} (hn : parameterLength code = some ps.length) :
    ∃ cmd, parseCommand code ps = some cmd ∧ cmd.wellFormed = true := by
  unfold parameterLength at hn
  unfold parseCommand
  split at hn
  next hc => rw [hc]; match ps, Option.some.inj hn with | [], _ => exact ⟨_, rfl, rfl⟩
  next hc => rw [hc]; match ps, Option.some.inj hn with | [_, _, _, _, _, _, _], _ => exact ⟨_, rfl, rfl⟩
  next hc => rw [hc]; match ps, Option.some.inj hn with | [sel], _ => exact ⟨_, rfl, wellFormed_resetCommand sel⟩
  next hc => rw [hc]; match ps, Option.some.inj hn with | [_, _], _ => exact ⟨_, rfl, rfl⟩
  next hc =>
    rw [hc]
    match ps, Option.some.inj hn with
    | [sel, _, _, _, _, _], _ => exact ⟨_, rfl, wellFormed_listCommand sel _ _ _⟩
  next hc => rw [hc]; match ps, Option.some.inj hn with | [_, _, _, _, _, _, _, _, _, _], _ => exact ⟨_, rfl, rfl⟩
  next hc => rw [hc]; match ps, Option.some.inj hn with | [sel, _, _], _ => exact ⟨_, rfl, wellFormed_openCommand sel _⟩
  next hc => rw [hc]; match ps, Option.some.inj hn with | [_, _, _, _], _ => exact ⟨_, rfl, rfl⟩
  next hc => rw [hc]; match ps, Option.some.inj hn with | [_, _], _ => exact ⟨_, rfl, rfl⟩
  next hc => rw [hc]; match ps, Option.some.inj hn with | [_], _ => exact ⟨_, rfl, rfl⟩
  next hc => rw [hc]; match ps, Option.some.inj hn with | [_], _ => exact ⟨_, rfl, rfl⟩
  next hc => rw [hc]; match ps, Option.some.inj hn with | [_], _ => exact ⟨_, rfl, rfl⟩
  next hc => rw [hc]; match ps, Option.some.inj hn with | [_, _], _ => exact ⟨_, rfl, rfl⟩
  next hc =>
    rw [hc]
    match ps, Option.some.inj hn with
    | [_, _, _, _, _, _, _, _, _, _, _, _, _, _, _, _, _, _, _, _], _ => exact ⟨_, rfl, rfl⟩
  next hc => rw [hc]; match ps, Option.some.inj hn with | [_], _ => exact ⟨_, rfl, rfl⟩
  next hc => rw [hc]; match ps, Option.some.inj hn with | [_], _ => exact ⟨_, rfl, rfl⟩
  next hc => rw [hc]; match ps, Option.some.inj hn with | [_], _ => exact ⟨_, rfl, rfl⟩
  next hc => rw [hc]; match ps, Option.some.inj hn with | [_, _, _], _ => exact ⟨_, rfl, rfl⟩
  next hc => rw [hc]; match ps, Option.some.inj hn with | [_], _ => exact ⟨_, rfl, rfl⟩
  next hc => rw [hc]; match ps, Option.some.inj hn with | [_], _ => exact ⟨_, rfl, rfl⟩
  next hc => rw [hc]; match ps, Option.some.inj hn with | [_], _ => exact ⟨_, rfl, rfl⟩
  next hc => rw [hc]; match ps, Option.some.inj hn with | [], _ => exact ⟨_, rfl, rfl⟩
  next hc => rw [hc]; match ps, Option.some.inj hn with | [_, _, _, _, _, _, _, _, _, _, _, _, _], _ => exact ⟨_, rfl, rfl⟩
  next hc => rw [hc]; match ps, Option.some.inj hn with | [_, _, _, _, _, _, _, _, _, _, _, _, _, _], _ => exact ⟨_, rfl, rfl⟩
  next => cases hn

end Parameters

/-! ### The intake checks (R150) -/

section Intake

variable (p : Port) {code tag len : Byte} {rest : List Byte}

/-- A frame passes the first check of R150: 4 to 68 bytes, as many as its length byte says. -/
def FrameSized (bytes : List Byte) : Prop :=
  ¬(bytes.length < 4 ∨ 68 < bytes.length ∨ bytes.length ≠ (bytes[2]?.getD 0).toNat + 4)

/-- A frame of that size has a code, a tag, a length and bytes after them. -/
theorem FrameSized.parts {bytes : List Byte} (hs : FrameSized bytes) :
    ∃ code tag len rest, bytes = code :: tag :: len :: rest := by
  match bytes, hs with
  | code :: tag :: len :: rest, _ => exact ⟨code, tag, len, rest, rfl⟩
  | [], hs | [_], hs | [_, _], hs => exact absurd (.inl (by simp)) hs

theorem frameTag_eq (bytes : List Byte) : frameTag bytes = bytes[1]?.getD 0 := by
  match bytes with
  | [] | [_] | _ :: _ :: _ => rfl

theorem frameSized_cons_iff :
    FrameSized (code :: tag :: len :: rest) ↔
      ¬((code :: tag :: len :: rest).length < 4 ∨ 68 < (code :: tag :: len :: rest).length ∨
        (code :: tag :: len :: rest).length ≠ len.toNat + 4) := Iff.rfl

/-- A frame of another size is a frame error, whatever it holds. -/
theorem intake_of_not_sized {bytes : List Byte} (hs : ¬FrameSized bytes) : intake p bytes = .error .frameError := by
  match bytes, hs with
  | [], _ | [_], _ | [_, _], _ => rfl
  | code :: tag :: len :: rest, hs =>
    have hbad := not_not.1 (frameSized_cons_iff.not.1 hs)
    refine if_pos ?_
    simpa only [Bool.or_eq_true, decide_eq_true_eq, bne_iff_ne, or_assoc] using hbad

variable (hs : FrameSized (code :: tag :: len :: rest))

include hs

/-- A frame of that size holds as many parameter bytes as its length byte says, and its check byte. -/
theorem FrameSized.length_take {n : Nat} (hlen : len.toNat = n) : (rest.take n).length = n := by
  have hrest : rest.length = len.toNat + 1 := by simpa using (not_or.1 (not_or.1 (frameSized_cons_iff.1 hs)).2).2
  rw [List.length_take]
  omega

theorem FrameSized.not_refused :
    ¬(((code :: tag :: len :: rest).length < 4 || 68 < (code :: tag :: len :: rest).length ||
      (code :: tag :: len :: rest).length != len.toNat + 4) = true) := by
  simpa only [Bool.or_eq_true, decide_eq_true_eq, bne_iff_ne, or_assoc] using frameSized_cons_iff.1 hs

/-- Check 2 of R150: the check byte. -/
theorem intake_of_bad_check (hcrc : crcOf (code :: tag :: len :: rest) ≠ 0) :
    intake p (code :: tag :: len :: rest) = .error .frameError :=
  (if_neg hs.not_refused).trans (if_pos (bne_iff_ne.2 hcrc))

variable (hcrc : crcOf (code :: tag :: len :: rest) = 0)

include hcrc

/-- Check 3 of R150: the command code. -/
theorem intake_of_unknown (hn : parameterLength code = none) :
    intake p (code :: tag :: len :: rest) = .error .unknownCommand := by
  refine (if_neg hs.not_refused).trans ((if_neg (by simp [hcrc])).trans ?_)
  rw [hn]

variable {n : Nat} (hn : parameterLength code = some n)

include hn

/-- Check 4 of R150: the parameter length of the command. -/
theorem intake_of_bad_length (hlen : len.toNat ≠ n) :
    intake p (code :: tag :: len :: rest) = .error .frameError := by
  refine (if_neg hs.not_refused).trans ((if_neg (by simp [hcrc])).trans ?_)
  rw [hn]
  exact if_pos (bne_iff_ne.2 hlen)

/-- Check 5 of R150: whether the port accepts the command. -/
theorem intake_of_command {cmd : Cmd} (hlen : len.toNat = n) (hcmd : parseCommand code (rest.take n) = some cmd) :
    intake p (code :: tag :: len :: rest) = if cmd.allowedOn p then .ok cmd else .error .readOnly := by
  refine (if_neg hs.not_refused).trans ((if_neg (by simp [hcrc])).trans ?_)
  rw [hn]
  refine (if_neg (by simp [hlen])).trans ?_
  rw [hcmd]

end Intake

/-! ### The frame of a command (R163) -/

section Frame

variable (cmd : Cmd) (tag : Byte)

/-- The bytes of a command's frame after its first three. -/
def frameRest (cmd : Cmd) (tag : Byte) : List Byte :=
  cmd.parameters ++ [crcOf ([cmd.code, tag, byteOf cmd.parameters.length] ++ cmd.parameters)]

theorem frame_eq_cons : cmd.frame tag = cmd.code :: tag :: byteOf cmd.parameters.length :: frameRest cmd tag := rfl

theorem toNat_byteOf_parameters : (byteOf cmd.parameters.length).toNat = cmd.parameters.length := by
  have hle := length_parameters_le cmd
  rw [byteOf, BitVec.toNat_ofNat]
  omega

theorem frameSized_frame : FrameSized (cmd.frame tag) := by
  have hle := length_parameters_le cmd
  have hlen := toNat_byteOf_parameters cmd
  rw [frame_eq_cons]
  simp only [FrameSized, frameRest, List.length_cons, List.length_append, List.length_nil, List.getElem?_cons_succ,
    List.getElem?_cons_zero, Option.getD_some, hlen]
  omega

/-- The intake checks of a command's own frame end at check 5 (R150). -/
theorem intake_frame (p : Port) {cmd : Cmd} (hw : cmd.wellFormed = true) :
    intake p (cmd.frame tag) = if cmd.allowedOn p then .ok cmd else .error .readOnly := by
  have hcrc : crcOf (cmd.frame tag) = 0 := crcOf_withCheck_eq_zero _
  refine intake_of_command p (rest := frameRest cmd tag) (frameSized_frame cmd tag) hcrc (parameterLength_code cmd)
    (toNat_byteOf_parameters cmd) ?_
  rw [frameRest, List.take_left]
  exact parseCommand_parameters hw

end Frame

/-- Settles O12: a command's frame passes the checks before the fifth. -/
theorem commandFramesRoundTrip : Obligations.CommandFramesRoundTrip := fun p tag _cmd hw =>
  ⟨rfl, intake_frame tag p hw⟩

/-! ### RESET DEVICE, which the port takes at the end of its frame (R152) -/

section PortCommands

variable (s : State) (p : Port) (tag : Byte)

/-- The commands that the port takes itself are those of code 0x03 (R152, R164). -/
theorem byPort_eq_decide_code (cmd : Cmd) : cmd.byPort = decide (cmd.code = 0x03) := by
  cases cmd <;> rfl

/-- The part with a command handed over to its block, in EXECUTING (R149). -/
def State.handed (s : State) (p : Port) (tag : Byte) (cmd : Cmd) : State :=
  s.setPort p { s.port p with slot := .executing tag cmd }

@[simp] theorem State.executing_handed (cmd : Cmd) : executing (s.handed p tag cmd) p tag cmd := by
  rw [executing, State.handed, State.port_setPort_same]

/-- The end of a RESET DEVICE frame leaves what the command's row leaves from EXECUTING (R152). -/
theorem exec_row_handed {cmd : Cmd} (hw : cmd.wellFormed = true) (hport : cmd.byPort = true) :
    exec (cmd.row p tag) (s.handed p tag cmd) = .next (s.handOver p tag cmd) := by
  cases cmd with
  | resetFull => exact congrArg Host.Outcome.next (State.command_executing _ p tag _ _ (s.executing_handed p tag _))
  | resetOther sel =>
    have hsel : sel ≠ 0 := bne_iff_ne.1 hw
    have hrow : exec ((Cmd.resetOther sel).row p tag) (s.handed p tag (.resetOther sel)) =
        .next ((s.handed p tag (.resetOther sel)).command p tag (resetCommand sel)
          (if sel = 0 then State.serveResetFull else State.serveResetOther sel)) := rfl
    rw [hrow, resetCommand, if_neg hsel, if_neg hsel, State.command_executing _ p tag _ _ (s.executing_handed p tag _)]
    rfl
  | _ => cases hport

end PortCommands

/-- Settles O16: the frame's end answers what the intake checks give, check by check. -/
theorem frameEndMakesTheIntakeChecks : Obligations.FrameEndMakesTheIntakeChecks := by
  intro p bytes s hl hr hx
  refine ⟨s.frameEnd p bytes, rfl, ?_⟩
  have hfails : ∀ {e}, intake p bytes = .error e → s.frameEnd p bytes = answered s p (bytes[1]?.getD 0) e [] := by
    intro e he
    rw [s.frameEnd_receiving p bytes hl hr hx, he, frameTag_eq]
    rfl
  dsimp only
  split
  next hsize => exact hfails (intake_of_not_sized p (not_not.2 hsize))
  next hs =>
    obtain ⟨code, tag, len, rest, rfl⟩ := FrameSized.parts hs
    split
    next hcrc => exact hfails (intake_of_bad_check p hs hcrc)
    next hcrc =>
      have hcrc := not_not.1 hcrc
      split
      next hn => exact hfails (intake_of_unknown p hs hcrc hn)
      next n hn =>
        split
        next hlen => exact hfails (intake_of_bad_length p hs hcrc hn hlen)
        next hlen =>
          have hlen : len.toNat = n := not_not.1 hlen
          obtain ⟨cmd, hcmd, hw⟩ := parseCommand_total (hn.trans (congrArg some (FrameSized.length_take hs hlen).symm))
          have hintake := intake_of_command p hs hcrc hn hlen hcmd
          refine ⟨cmd, hcmd, ?_⟩
          split
          next hallowed =>
            have hend : s.frameEnd p (code :: tag :: len :: rest) = s.handOver p tag cmd := by
              rw [s.frameEnd_receiving p _ hl hr hx, hintake, if_pos hallowed]
              rfl
            split
            next hreset =>
              rw [hend]
              exact exec_row_handed s p tag hw ((byPort_eq_decide_code cmd).trans (decide_eq_true hreset))
            next hother =>
              rw [hend, s.handOver_waits p tag cmd ((byPort_eq_decide_code cmd).trans (decide_eq_false hother))]
              rfl
          next hallowed => exact hfails (hintake.trans (if_neg hallowed))

/-- Settles O24: DONE at the end of the frame and by the row, and the reset at the next frame's first byte. -/
theorem fullResetWaitsForItsTrigger : Obligations.FullResetWaitsForItsTrigger := by
  refine ⟨fun tag s hl hr hx => ?frame, fun p q tag s hx hl => ⟨?row, ?trigger⟩⟩
  case frame =>
    have hexec : exec (.commandFrameEnd .host (Cmd.resetFull.frame tag)) s =
        .next (s.frameEnd .host (Cmd.resetFull.frame tag)) := rfl
    rw [hexec, s.frameEnd_receiving .host _ hl hr hx, intake_frame tag .host rfl]
    exact congrArg Host.Outcome.next (s.handOver_resetFull .host tag)
  case row =>
    have hexec : exec (.resetDeviceFull p tag) s = .next (s.command p tag .resetFull State.serveResetFull) := rfl
    rw [hexec, s.command_executing p tag _ _ hx, s.take_executing p tag _ _ hx rfl]
    rfl
  case trigger =>
    generalize hwaits : answered { s with resetWaiting := true } p tag .done [] = w
    have hlow : w.resetLow = false := by rw [← hwaits]; cases p <;> exact hl
    have hfirst : w.atFirstByte = w.fullReset := State.atFirstByte_of_waiting (by rw [← hwaits]; cases p <;> rfl)
    have hempty : (w.atFirstByte.port q).slot = .empty := by rw [hfirst, State.slot_fullReset]
    refine ⟨_, exec_commandFrameStart q hlow, ?receiving, fun r hrq => ?other, ?blocks⟩
    case receiving => simp [State.frameStart_of_empty q hlow hempty, State.setSent]
    case other =>
      rw [State.frameStart_of_empty q hlow hempty, hfirst, State.setSent, State.port_setPort_ne _ _ _ _ hrq,
        State.port_setPort_ne _ _ _ _ hrq, State.fullReset_port]
      rfl
    case blocks =>
      rw [State.frameStart_of_empty q hlow hempty, hfirst, State.setSent, State.setPort_setPort, State.fullReset_eq, hlow,
        ← hwaits]
      cases p <;> cases q <;> rfl

end Sys2Proof.Machine
end

section
/-! PROOFS. READ DEVICE: the part, its counts, its contexts, its pending retirements and its settings in 31 bytes (R157, R166). -/

namespace Sys2Proof.Machine

open Sys2Proof.Claims

section Counts

variable (s : State)

/-- The slots of the catalogue store in the order of their numbers. -/
theorem State.slots_toList : s.slots.toList = (List.range 96).map s.slot := by
  apply List.ext_getElem
  · simp
  · intro n hn _
    have hlt : n < 96 := by simpa using hn
    simp [State.slot, hlt]

/-- The count of slots in a state goes by slot number. -/
theorem State.countSlots_eq (x : SlotState) : s.countSlots x = (List.range 96).countP fun n => (s.slot n).state == x := by
  rw [State.countSlots, State.slots_toList, List.countP_map]
  rfl

/-- Each of some slots is in one of three states. -/
theorem countP_states (l : List Slot) :
    (l.countP fun v => v.state == .live) + (l.countP fun v => v.state == .retiring) + (l.countP fun v => v.state == .free) =
      l.length := by
  induction l with
  | nil => rfl
  | cons v l ih =>
    simp only [List.countP_cons, List.length_cons, ← ih]
    cases v.state <;> simp <;> omega

/-- The 96 slots are LIVE, RETIRING or FREE (R2). -/
theorem State.countSlots_total : s.countSlots .live + s.countSlots .retiring + s.countSlots .free = 96 :=
  (countP_states s.slots.toList).trans (by simp)

/-- Bit n of the OPEN contexts is that of context n (R166). -/
theorem State.getLsbD_openEdits (id : Fin 4) : (byteOf s.openEdits).getLsbD id.val = (s.edit id).isSome := by
  have hbits : ∀ (a b c d : Bool) (id : Fin 4),
      (byteOf (boolCode a + 2 * boolCode b + 4 * boolCode c + 8 * boolCode d)).getLsbD id.val = ![a, b, c, d] id := by
    decide
  refine (hbits _ _ _ _ id).trans ?_
  match id with
  | 0 | 1 | 2 | 3 => rfl

end Counts

section Layout

variable (s : State)

/-- The sixteen bytes of the pending-retire handles, filled up with 0 (R166). -/
def State.pendingBytes (s : State) : List Byte :=
  ((s.retiring.flatMap fun (e : RetireEntry) => [e.handle.slot, e.handle.gen]) ++ List.replicate 16 0x00).take 16

theorem State.length_pendingBytes : s.pendingBytes.length = 16 := by
  rw [State.pendingBytes, List.length_take, List.length_append, List.length_replicate]
  omega

/-- The eight bytes before the pending-retire handles, those, and the seven bytes of the settings (R166). -/
theorem State.encodeDevice_eq :
    s.encodeDevice =
      [0x06, 0x96, 1, byteOf (s.countSlots .live), byteOf (s.countSlots .retiring), byteOf (s.countSlots .free),
        byteOf s.openEdits, byteOf s.retiring.length] ++ (s.pendingBytes ++
      [byteOf (s.time.refclk / 65536), byteOf (s.time.refclk / 256), byteOf s.time.refclk, byteOf s.time.divider,
        byteOf s.time.lease, byteOf s.time.retire, byteOf (boolCode s.time.announce)]) := by
  simp only [State.encodeDevice, State.pendingBytes, handleBytes, bytes3, List.append_assoc, List.cons_append,
    List.nil_append]
  rfl

theorem State.length_encodeDevice : s.encodeDevice.length = 31 := by
  rw [State.encodeDevice_eq, List.length_append, List.length_append, State.length_pendingBytes]
  rfl

end Layout

/-- Settles O22: the row answers at its grant, and the bytes stand where the layout puts them. -/
theorem readDeviceReportsThePart : Obligations.ReadDeviceReportsThePart := by
  intro p tag s hx hg
  refine ⟨?row, s.length_encodeDevice, ?part, s.countSlots_total, s.countSlots_eq, fun id => ?edits, ?pending, ?settings⟩
  case row =>
    have hexec : exec (.readDevice p tag) s = .next (s.command p tag .readDevice State.serveReadDevice) := rfl
    have htake : s.mayTake p .readDevice = true := by simp [State.mayTake, hg]
    rw [hexec, s.command_executing p tag _ _ hx, s.take_executing p tag _ _ hx htake]
    rfl
  case part => rw [State.encodeDevice_eq]; rfl
  case edits =>
    rw [State.encodeDevice_eq]
    exact s.getLsbD_openEdits id
  case pending =>
    rw [State.encodeDevice_eq, List.drop_append_of_le_length (by simp), List.drop_succ_cons]
    exact congrArg (byteOf s.retiring.length :: ·) (List.take_left' s.length_pendingBytes)
  case settings =>
    rw [State.encodeDevice_eq, ← List.append_assoc,
      List.drop_left' (by rw [List.length_append, State.length_pendingBytes]; rfl)]
    cases s.time.announce <;> rfl

end Sys2Proof.Machine
end

section
/-! PROOFS. What events, servings and notices leave of what lies outside the blocks: the ports, a waiting full reset, the level of
nRESET and the queue (R149, R160, R161). -/

namespace Sys2Proof.Machine

/-! ### The part of the state that lies outside the blocks -/

/-- The ports, whether a full reset waits, whether nRESET is held low, and the queue. -/
structure PortSide where
  host : PortState
  monitor : PortState
  resetWaiting : Bool
  resetLow : Bool
  pending : List Instr

/-- What of a state lies outside the blocks. -/
def State.portSide (s : State) : PortSide :=
  { host := s.host, monitor := s.monitor, resetWaiting := s.resetWaiting, resetLow := s.resetLow, pending := s.pending }

section PortSides

variable {s t : State}

theorem State.portSide_iff :
    t.portSide = s.portSide ↔ t.host = s.host ∧ t.monitor = s.monitor ∧ t.resetWaiting = s.resetWaiting ∧
      t.resetLow = s.resetLow ∧ t.pending = s.pending := by
  simp [State.portSide]

/-- What lies outside the releases holds what lies outside the blocks. -/
theorem State.portSide_of_outside (h : t.outside = s.outside) : t.portSide = s.portSide :=
  State.eq_of_outside h State.portSide fun _ => rfl

variable (s)

@[simp] theorem State.portSide_setCh (c : Ch) (v : Channel) : (s.setCh c v).portSide = s.portSide := rfl
@[simp] theorem State.portSide_setFlag (c : Ch) (f : ChannelFlag) : (s.setFlag c f).portSide = s.portSide := rfl
@[simp] theorem State.portSide_completeRetirement (h : Handle) : (s.completeRetirement h).portSide = s.portSide := rfl

@[simp] theorem State.portSide_clearChannelFlags : s.clearChannelFlags.portSide = s.portSide := rfl

@[simp] theorem State.portSide_setFlagIf (b : Bool) (c : Ch) (f : ChannelFlag) : (s.setFlagIf b c f).portSide = s.portSide :=
  State.portSide_of_outside (s.outside_setFlagIf b c f)

@[simp] theorem State.portSide_countDown (h : Handle) : (s.countDown h).portSide = s.portSide :=
  State.portSide_of_outside (s.outside_countDown h)

@[simp] theorem State.portSide_releaseBound (bound : Option Handle) : (s.releaseBound bound).portSide = s.portSide :=
  State.portSide_of_outside (s.outside_releaseBound bound)

@[simp] theorem State.portSide_rebindCounts (bound : Option Handle) (h : Handle) :
    (s.rebindCounts bound h).portSide = s.portSide :=
  State.portSide_of_outside (s.outside_rebindCounts bound h)

@[simp] theorem State.portSide_beginFrame : s.beginFrame.portSide = s.portSide :=
  State.portSide_of_outside s.outside_beginFrame

@[simp] theorem State.portSide_handOn (c : Ch) : (s.handOn c).portSide = s.portSide :=
  State.portSide_of_outside (s.outside_handOn c)

@[simp] theorem State.portSide_announceChange (c : Ch) : (s.announceChange c).portSide = s.portSide := by
  unfold State.announceChange
  dsimp only
  split <;> rfl

@[simp] theorem State.portSide_drift (c : Ch) : (s.drift c).portSide = s.portSide := by
  simp [State.drift]

/-- Steps that each leave what lies outside the blocks leave it one after another. -/
theorem State.portSide_foldl {α : Type} {f : State → α → State} (hf : ∀ s a, (f s a).portSide = s.portSide)
    (l : List α) : (l.foldl f s).portSide = s.portSide :=
  List.foldlRecOn l f (motive := fun t => t.portSide = s.portSide) rfl fun t ht a _ => (hf t a).trans ht

end PortSides

/-! ### Events of the channels (chapters 4 to 7) -/

section Channels

variable (s : State) (c : Ch)

theorem State.portSide_changePolarity (input : SyncInput) : (s.changePolarity c input).portSide = s.portSide := by
  unfold State.changePolarity
  dsimp only
  split
  next =>
    split
    next => split <;> simp
    next => rfl
  next => rfl

@[simp] theorem State.portSide_outOfRangeLine (ch : Channel) : (s.outOfRangeLine c ch).portSide = s.portSide := by
  unfold State.outOfRangeLine
  dsimp only
  split
  next => split <;> simp
  next => rfl

theorem State.portSide_lineMarker (ticks : Nat) : (s.lineMarker c ticks).portSide = s.portSide := by
  unfold State.lineMarker
  dsimp only
  split
  next =>
    split
    next => rfl
    next => split <;> simp
  next => rfl

theorem State.portSide_longLine : (s.longLine c).portSide = s.portSide := by
  unfold State.longLine
  dsimp only
  split <;> simp

@[simp] theorem State.portSide_reverifyStep : (s.reverifyStep c).portSide = s.portSide := by
  unfold State.reverifyStep
  dsimp only
  split
  next => rfl
  next => split <;> simp

@[simp] theorem State.portSide_markSteps (average : Nat) : (s.markSteps c average).portSide = s.portSide := by
  unfold State.markSteps
  dsimp only
  split
  next => rfl
  next =>
    split
    next => simp
    next =>
      split
      next => simp
      next => split <;> rfl

theorem State.portSide_blockBoundary : (s.blockBoundary c).portSide = s.portSide := by
  unfold State.blockBoundary
  dsimp only
  split
  next => rfl
  next =>
    split
    next => split <;> simp
    next => split <;> simp
    all_goals simp

@[simp] theorem State.portSide_takeInterval (v : Nat) : (s.takeInterval c v).portSide = s.portSide := by
  unfold State.takeInterval
  dsimp only
  split
  next =>
    split
    next => rfl
    next => split <;> simp
  next => rfl

theorem State.portSide_verticalMarker : (s.verticalMarker c).portSide = s.portSide := by
  unfold State.verticalMarker
  dsimp only
  split
  next => split <;> simp
  next => rfl

theorem State.portSide_longInterval : (s.longInterval c).portSide = s.portSide := by
  unfold State.longInterval
  dsimp only
  split
  next => split <;> simp
  next => rfl

theorem State.portSide_lineLossExpires : (s.lineLossExpires c).portSide = s.portSide := by
  unfold State.lineLossExpires
  dsimp only
  split
  next => split <;> simp [State.inputLoss]
  next => rfl

theorem State.portSide_verticalLossExpires : (s.verticalLossExpires c).portSide = s.portSide := by
  unfold State.verticalLossExpires
  dsimp only
  split
  next =>
    split
    next => split <;> simp
    next => rfl
  next => rfl

theorem State.portSide_holdLimitExpires : (s.holdLimitExpires c).portSide = s.portSide := by
  unfold State.holdLimitExpires
  dsimp only
  split <;> simp

theorem State.portSide_substituteFrameStart : (s.substituteFrameStart c).portSide = s.portSide := by
  unfold State.substituteFrameStart
  dsimp only
  split <;> simp

theorem State.portSide_frameComplete : s.frameComplete.portSide = s.portSide := by
  unfold State.frameComplete
  split
  next => rw [State.portSide_beginFrame]; rfl
  next => rfl

end Channels

/-! ### Requests (R52 to R55) -/

section Requests

variable (s : State) (c : Ch)

theorem State.portSide_serveMatch (m : Measurement) : (s.serveMatch c m).portSide = s.portSide := by
  unfold State.serveMatch
  split
  next => simp [State.matchFound]
  next =>
    unfold State.matchNone
    dsimp only
    split <;> simp

theorem State.portSide_serveRematch (m : Measurement) : (s.serveRematch c m).portSide = s.portSide := by
  unfold State.serveRematch
  split
  next => simp [State.rematchRebound]
  next => simp [State.rematchReleased]

theorem State.portSide_grantChannel {serve : State → State} (hserve : ∀ t : State, (serve t).portSide = t.portSide) :
    (s.grantChannel c serve).portSide = s.portSide := by
  unfold State.grantChannel
  split
  next => exact (hserve _).trans rfl
  next => rfl

end Requests

/-! ### Notices, contexts and retirements (chapters 2 and 6) -/

section Notices

variable (s : State)

@[simp] theorem State.portSide_freeContextOf (id : Fin 4) (e : EditContext) : (s.freeContextOf id e).portSide = s.portSide := by
  unfold State.freeContextOf
  split <;> rfl

@[simp] theorem State.portSide_noticeAmendment (n : Nat) (c : Ch) : (s.noticeAmendment n c).portSide = s.portSide := by
  unfold State.noticeAmendment
  dsimp only
  split
  next => split <;> simp
  next => rfl

theorem State.portSide_noticeCommit (n : Nat) (amended : Bool) : (s.noticeCommit n amended).portSide = s.portSide := by
  refine (State.portSide_foldl _ (fun t c => ?_) _).trans rfl
  rw [State.noticeMarks, State.portSide_setCh]
  split
  next => exact t.portSide_noticeAmendment n c
  next => rfl

@[simp] theorem State.portSide_amendRecord (k : Fin 4) (n : Nat) (body : Body) :
    (s.amendRecord k n body).portSide = s.portSide := by
  unfold State.amendRecord
  dsimp only
  split <;> rfl

theorem State.portSide_beginRetirement (h : Handle) : (s.beginRetirement h).portSide = s.portSide := by
  have hmarked : (s.markRetiring h).portSide = s.portSide := rfl
  rw [← hmarked]
  exact State.portSide_of_outside s.outside_beginRetirement

theorem State.portSide_expireRetirement (h : Handle) : (s.expireRetirement h).portSide = s.portSide := by
  have hforced : (s.forcedOver h channels).portSide = s.portSide := State.portSide_of_outside (s.outside_forcedOver h channels)
  unfold State.expireRetirement
  dsimp only
  split
  next => exact (State.portSide_completeRetirement _ h).trans hforced
  next => exact hforced

theorem State.portSide_channelReset : s.channelReset.portSide = s.portSide := by
  have hchannels : (channels.foldl State.resetChannel s).portSide = s.portSide := by
    refine State.portSide_foldl s (fun t c => ?_) channels
    unfold State.resetChannel
    split <;> simp
  unfold State.channelReset
  dsimp only
  rw [State.portSide_clearChannelFlags, State.portSide_beginFrame, hchannels]

end Notices

end Sys2Proof.Machine
end

section
/-! PROOFS. What a block answers to a command: a response that may stand in a response buffer, and nothing outside the blocks
changed (R149, R152, R156). -/

namespace Sys2Proof.Machine

/-! ### Answers (R149, R156) -/

/-- Whether an answer makes a response that may stand in a response buffer. -/
def Reply.lawful (r : Reply) : Prop := ∀ tag, ({ status := r.status, tag := tag, data := r.data } : Response).lawful = true

/-- Whether a status is an outcome of a command: BUSY and NOT_READY are states of the slot (R156). -/
def Status.outcome : Status → Bool
  | .busy | .notReady => false
  | _ => true

/-- A block that answers from a state leaves what lies outside the blocks, and its answer is lawful. -/
def Answers (s : State) (r : State × Reply) : Prop := r.1.portSide = s.portSide ∧ r.2.lawful

/-- A block's serving answers every state. -/
def Served (serve : State → State × Reply) : Prop := ∀ s, Answers s (serve s)

section Answers

theorem Reply.lawful_of (e : Status) (he : e.outcome = true) : (Reply.of e).lawful := by
  intro tag
  cases e with
  | busy | notReady => cases he
  | _ => rfl

theorem Reply.lawful_done {data : List Byte} (h : data.length ≤ 64) :
    ({ status := .done, data := data } : Reply).lawful := by
  intro tag
  simpa [Response.lawful] using h

theorem Reply.lawful_pending {data : List Byte} (h : data.length ≤ 64) :
    ({ status := .pending, data := data } : Reply).lawful := by
  intro tag
  simpa [Response.lawful] using h

variable {s t : State}

theorem Answers.of_parts {r : Reply} (h : t.portSide = s.portSide) (hr : r.lawful) : Answers s (t, r) := ⟨h, hr⟩

/-- A block answers with a status alone. -/
theorem Answers.status {e : Status} (h : t.portSide = s.portSide) (he : e.outcome = true) : Answers s (t, Reply.of e) :=
  ⟨h, Reply.lawful_of e he⟩

/-- A block answers DONE with data. -/
theorem Answers.data {data : List Byte} (h : t.portSide = s.portSide) (hlen : data.length ≤ 64) :
    Answers s (t, { status := .done, data := data }) :=
  ⟨h, Reply.lawful_done hlen⟩

theorem Served.withHandle {serve : State → State × Reply} (hserve : Served serve) (h : Handle) :
    Served fun s => s.withHandle h serve := by
  intro s
  unfold State.withHandle State.handleError
  dsimp only
  split
  next e he =>
    refine .status rfl ?_
    split at he
    next => cases he; rfl
    next =>
      split at he
      next => cases he
      next => cases he; rfl
  next => exact hserve s

theorem Served.withChannel {serve : Ch → State → State × Reply} (hserve : ∀ c, Served (serve c)) (channel : Byte) :
    Served fun s => s.withChannel channel serve := by
  intro s
  unfold State.withChannel
  dsimp only
  split
  next => exact hserve _ s
  next => exact .status rfl rfl

theorem Served.withEdit {serve : State → Fin 4 → EditContext → State × Reply} (id : Byte)
    (hserve : ∀ k e, Served fun s => serve s k e) : Served fun s => s.withEdit id (serve s) := by
  intro s
  unfold State.withEdit
  dsimp only
  split
  next =>
    split
    next => exact hserve _ _ s
    next => exact .status rfl rfl
  next => exact .status rfl rfl

end Answers

/-! ### Lengths of response data (R164 to R166) -/

section Lengths

/-- Data made of pieces of one length. -/
theorem length_flatMap_const {α : Type} (l : List α) (f : α → List Byte) (n : Nat) (hf : ∀ a, (f a).length = n) :
    (l.flatMap f).length = l.length * n := by
  simp [List.length_flatMap, hf]

theorem length_encodeRecord (h : Handle) (v : Slot) : (encodeRecord h v).length = 25 := rfl

theorem EditContext.length_encode (e : EditContext) : e.encode.length = 24 := by
  unfold EditContext.encode
  cases e.target <;> rfl

theorem State.length_listData_le (s : State) (l : List Nat) : (s.listData l).length ≤ 34 := by
  have hentries : ((l.take 4).flatMap s.listEntry).length = (l.take 4).length * 8 :=
    length_flatMap_const _ _ 8 fun _ => rfl
  rw [State.listData, List.length_append, hentries, List.length_take]
  simp only [List.length_cons, List.length_nil]
  omega

theorem length_encodeChannel (c : Ch) (ch : Channel) (a : AnnounceChannel) : (encodeChannel c ch a).length = 23 := by
  have hbinding : ch.binding.encode.length = 5 := by cases ch.binding <;> rfl
  have hshort : (encodeShortlist ch.shortlist).length = 10 := by
    rw [encodeShortlist, List.length_cons, List.length_take, List.length_append, List.length_replicate]
    omega
  simp only [encodeChannel, List.length_append, List.length_cons, List.length_nil, hbinding, hshort]

theorem EventUnit.length_encode (e : EventUnit) : e.encode.length = 27 := by
  have hbytes : ∀ v : Vector (BitVec 9) 6, (v.toList.flatMap fun f => bytes2 f.toNat).length = 12 := fun v =>
    (length_flatMap_const _ _ 2 fun _ => rfl).trans (by rw [Vector.length_toList])
  simp only [EventUnit.encode, List.length_append, hbytes, List.length_cons, List.length_nil]

end Lengths

/-! ### The catalogue, the device and the event unit -/

section Commands

theorem served_readDevice : Served State.serveReadDevice := fun s =>
  .data rfl (s.length_encodeDevice.trans_le (by decide))

theorem served_setup (refclk : BitVec 24) (divider lease retire announce : Byte) :
    Served (State.serveSetup refclk divider lease retire announce) := by
  intro s
  unfold State.serveSetup
  split
  next => exact .status rfl rfl
  next =>
    split
    next => exact .status rfl rfl
    next =>
      refine .status ?_ rfl
      split
      next => rw [State.portSide_beginFrame]; rfl
      next => rfl

theorem served_resetOther (selector : Byte) : Served (State.serveResetOther selector) := by
  intro s
  unfold State.serveResetOther
  split
  next => exact .status s.portSide_channelReset rfl
  next => exact .status rfl rfl

theorem served_readRecord (h : Handle) : Served (State.serveReadRecord h) :=
  Served.withHandle (fun _ => .data rfl (by rw [length_encodeRecord]; decide)) h

theorem served_listStart : Served State.serveListStart := fun s =>
  .data rfl ((s.length_listData_le _).trans (by decide))

theorem served_listAfter (selector : Byte) (linePeriod frameLines : BitVec 16) (scan : Byte) :
    Served (State.serveListAfter selector linePeriod frameLines scan) := by
  intro s
  unfold State.serveListAfter
  split
  next => exact .status rfl rfl
  next =>
    split
    next => exact .data rfl ((s.length_listData_le _).trans (by decide))
    next => exact .status rfl rfl

theorem served_findFormat (linePeriod frameLines : BitVec 16) (scan : Byte) (syncWidth : BitVec 16)
    (linePolarity verticalPolarity classMask : Byte) :
    Served (State.serveFindFormat linePeriod frameLines scan syncWidth linePolarity verticalPolarity classMask) := by
  intro s
  unfold State.serveFindFormat
  split
  next =>
    dsimp only
    split
    next => exact .data rfl (by simp [handleBytes])
    next => exact .status rfl rfl
  next => exact .status rfl rfl

theorem served_readEvents : Served State.serveReadEvents := fun s =>
  .data rfl (s.events.length_encode.trans_le (by decide))

theorem served_clearEvents (maps : ChannelMaps) (device : Byte) : Served (State.serveClearEvents maps device) := by
  intro s
  unfold State.serveClearEvents
  split <;> exact .status rfl rfl

theorem served_setEventMasks (maps : ChannelMaps) (device pinDisable : Byte) :
    Served (State.serveSetEventMasks maps device pinDisable) := by
  intro s
  unfold State.serveSetEventMasks
  split <;> exact .status rfl rfl

/-! ### Editing and retiring (chapters 2 and 6) -/

theorem served_openNew : Served State.serveOpenNew := by
  intro s
  unfold State.serveOpenNew
  split
  next => exact .status rfl rfl
  next => exact .data rfl (by simp)

theorem served_open (selector : Byte) (h : Handle) : Served (State.serveOpen selector h) := by
  unfold State.serveOpen
  split
  next =>
    refine Served.withHandle (fun s => ?_) h
    dsimp only
    split
    next => exact .status rfl rfl
    next =>
      split
      next => exact .status rfl rfl
      next =>
        split
        next => exact .status rfl rfl
        next => exact .data rfl (by simp)
  next => exact fun _ => .status rfl rfl

theorem served_setField (id field : Byte) (value : BitVec 16) : Served (State.serveSetField id field value) := by
  refine .withEdit id fun k e s => ?_
  split
  next => exact .status rfl rfl
  next => split <;> exact .status rfl rfl

theorem served_clearField (id field : Byte) : Served (State.serveClearField id field) := by
  refine .withEdit id fun k e s => ?_
  split <;> exact .status rfl rfl

theorem served_readEdit (id : Byte) : Served (State.serveReadEdit id) :=
  .withEdit id fun _ e _ => .data rfl (e.length_encode.trans_le (by decide))

theorem served_dropEdit (id : Byte) : Served (State.serveDropEdit id) :=
  .withEdit id fun k e s => .status (s.portSide_freeContextOf k e) rfl

theorem served_commitEdit (id : Byte) : Served (State.serveCommitEdit id) := by
  refine .withEdit id fun k e s => ?_
  have hrefused : ∀ status : Status, status.outcome = true → Answers s (s.commitRefused k e status) :=
    fun _ => .status rfl
  have hcommitted : ∀ (t : State) (n : Nat) (amended : Bool), t.portSide = s.portSide →
      Answers s (t.noticeCommit n amended, t.commitReply n) :=
    fun t n amended ht => .data ((t.portSide_noticeCommit n amended).trans ht) (by simp [handleBytes])
  split
  next => exact hrefused _ rfl
  next =>
    split
    next => exact hrefused _ rfl
    next =>
      split
      next =>
        dsimp only
        split
        next => exact hrefused _ rfl
        next =>
          split
          next => exact hrefused _ rfl
          next => exact hcommitted _ _ _ rfl
      next r _ =>
        dsimp only
        split
        next => exact hrefused _ rfl
        next => exact hcommitted _ _ _ (s.portSide_amendRecord _ _ _)

theorem served_retireRecord (h : Handle) : Served (State.serveRetireRecord h) := by
  refine Served.withHandle (fun s => ?_) h
  dsimp only
  split
  next => exact .status rfl rfl
  next =>
    split
    next => exact .status rfl rfl
    next =>
      split
      next => exact .status rfl rfl
      next =>
        split
        next => exact .status rfl rfl
        next =>
          split
          next => exact .data rfl (by simp [handleBytes])
          next =>
            refine .of_parts (s.portSide_beginRetirement h) ?_
            split
            next => exact Reply.lawful_pending (by simp [handleBytes])
            next => exact Reply.lawful_done (by simp [handleBytes])

/-! ### The channel commands (chapters 5 and 7) -/

variable (c : Ch)

theorem served_configure (settings : RawSettings) : Served (State.serveConfigure settings c) := by
  intro s
  unfold State.serveConfigure
  split
  next => exact .status rfl rfl
  next => split <;> exact .status rfl rfl

theorem served_start : Served (State.serveStart c) := by
  intro s
  unfold State.serveStart
  dsimp only
  split <;> exact .status rfl rfl

theorem served_stop : Served (State.serveStop c) := by
  intro s
  refine .status ?_ rfl
  unfold State.stopChannel
  split <;> simp

theorem served_rearm : Served (State.serveRearm c) := by
  intro s
  unfold State.serveRearm
  split
  next => exact .status rfl rfl
  next => exact .status (by simp) rfl

theorem served_readChannel : Served (State.serveReadChannel c) := fun _ =>
  .data rfl ((length_encodeChannel c _ _).trans_le (by decide))

theorem served_readMeasurement : Served (State.serveReadMeasurement c) := fun _ =>
  .data rfl (by simp [encodeMeasurement, bytes2])

theorem served_flush : Served (State.serveFlush c) := fun _ => .status rfl rfl

theorem served_force (h : Handle) : Served (State.serveForce h c) := by
  intro s
  unfold State.serveForce
  dsimp only
  split
  next => exact .status rfl rfl
  next =>
    refine Served.withHandle (fun t => ?_) h s
    split
    next => exact .status rfl rfl
    next => exact .status (by simp) rfl

end Commands

end Sys2Proof.Machine
end

section
/-! PROOFS. The rows by their form: what a row that is not of the reset pins can do, said once (R149 to R156, R161; entry 3). -/

namespace Sys2Proof.Machine

/-! ### Events of a part with nothing under way (entry 3) -/

/-- A part in which nothing is under way that an event could end: what a full reset leaves of channels, contexts,
pending-retire set and link (R160). -/
structure State.Still (s : State) : Prop where
  channels : ∀ c, s.ch c = Channel.initial
  edits : ∀ id, s.edit id = none
  retiring : s.retiring = []
  link : s.link = none

section Still

variable {s : State} (h : s.Still) (c : Ch)

include h

/-- An engine that is left at its reset value changes nothing. -/
theorem State.Still.setCh_eq {v : Channel} (hv : v = Channel.initial) : s.setCh c v = s := by
  have hset : s.chans.set c.val (s.chans[c.val]) = s.chans := Vector.set_getElem_self c.isLt
  rw [hv, ← h.channels c, State.setCh, State.ch, hset]

theorem State.Still.cycleComplete (input : SyncInput) (high cycle : Nat) :
    s.setCh c ((s.ch c).cycleComplete input high cycle) = s :=
  h.setCh_eq c (by rw [h.channels]; rfl)

theorem State.Still.changePolarity (input : SyncInput) : s.changePolarity c input = s := by
  unfold State.changePolarity
  rw [h.channels]
  cases input <;> rfl

theorem State.Still.lineMarker (ticks : Nat) : s.lineMarker c ticks = s := by
  unfold State.lineMarker
  rw [h.channels]
  rfl

theorem State.Still.longLine : s.longLine c = s := by
  unfold State.longLine
  rw [h.channels]
  rfl

theorem State.Still.blockBoundary : s.blockBoundary c = s := by
  unfold State.blockBoundary
  rw [h.channels]
  rfl

theorem State.Still.verticalMarker : s.verticalMarker c = s := by
  unfold State.verticalMarker
  rw [h.channels]
  rfl

theorem State.Still.longInterval : s.longInterval c = s := by
  unfold State.longInterval
  rw [h.channels]
  rfl

theorem State.Still.closeWidth : s.setCh c (s.ch c).closeWidth = s := h.setCh_eq c (by rw [h.channels]; rfl)

theorem State.Still.lineLossExpires : s.lineLossExpires c = s := by
  unfold State.lineLossExpires
  rw [h.channels]
  rfl

theorem State.Still.verticalLossExpires : s.verticalLossExpires c = s := by
  unfold State.verticalLossExpires
  rw [h.channels]
  rfl

theorem State.Still.holdLimitExpires : s.holdLimitExpires c = s := by
  unfold State.holdLimitExpires
  rw [h.channels]
  rfl

theorem State.Still.substituteFrameStart : s.substituteFrameStart c = s := by
  unfold State.substituteFrameStart
  rw [h.channels]
  rfl

theorem State.Still.substituteLine : s.setCh c (s.ch c).substituteLine = s := h.setCh_eq c (by rw [h.channels]; rfl)

theorem State.Still.endSubPulse : s.setCh c (s.ch c).endSubPulse = s := h.setCh_eq c (by rw [h.channels]; rfl)

theorem State.Still.frameComplete : s.frameComplete = s := by
  unfold State.frameComplete
  rw [h.link]
  rfl

/-- No channel has a request posted. -/
theorem State.Still.request : (s.ch c).request = none := by
  rw [h.channels]
  rfl

end Still

/-! ### Operations of the ports (R150 to R155) -/

/-- A property of states that the operations of the ports keep. -/
structure PortClosed (P : State → Prop) : Prop where
  frameStart : ∀ s p, P s → P (s.frameStart p)
  frameEnd : ∀ s p bytes, P s → P (s.frameEnd p bytes)
  readEnd : ∀ s p taken, P s → P (s.readEnd p taken)
  setSent : ∀ s p sent acks, P s → P (s.setSent p sent acks)

section PortClosed

variable {P : State → Prop} (hP : PortClosed P) {s : State} (h : P s)

include hP h

theorem PortClosed.endRead (p : Port) (ready : Bool) (taken : Nat) : P (s.endRead p ready taken) := by
  unfold State.endRead
  split
  next =>
    cases ready with
    | true => exact hP.setSent _ _ _ _ (hP.readEnd _ _ _ h)
    | false => exact hP.setSent _ _ _ _ h
  next => exact h

theorem PortClosed.endCutRead (p : Port) (ready : Bool) (cut taken : Nat) : P (s.endCutRead p ready cut taken) := by
  unfold State.endCutRead
  split
  next =>
    split
    next => exact hP.setSent _ _ _ _ h
    next => exact h
  next => exact h

theorem PortClosed.hostTransaction (type : Byte) (bytes : List Byte) : P (s.hostTransaction type bytes) := by
  unfold State.hostTransaction
  split
  next => exact h
  next =>
    split
    next =>
      split
      next => exact hP.setSent _ _ _ _ h
      next => exact hP.setSent _ _ _ _ (hP.frameEnd _ _ _ (hP.frameStart _ _ h))
    next =>
      split
      next => exact hP.setSent _ _ _ _ (hP.readEnd _ _ _ h)
      next => exact hP.setSent _ _ _ _ h

end PortClosed

/-! ### The rows by their form -/

/-- The rows of the power and reset pins. -/
def Instr.ofPins : Instr → Prop
  | .powerOn _ | .nresetAssert | .nresetRelease _ => True
  | _ => False

/-- What a row that is not of the pins can do from a state: an event, which leaves what lies outside the blocks, and leaves a part
with nothing under way as it is; a command, which its block answers; RESET DEVICE FULL, which the port takes; or what the transports
do by the ports' operations, which is nothing while nRESET is held low. -/
inductive RowForm (s : State) : Host.Outcome State Fault Refusal → Prop
  | event {t : State} (hside : t.portSide = s.portSide) (hstill : s.Still → t = s) : RowForm s (.next t)
  | command {serve : State → State × Reply} (hserve : Served serve) (p : Port) (tag : Byte) (cmd : Cmd) :
      RowForm s (.next (s.command p tag cmd serve))
  | resetFull (p : Port) (tag : Byte) : RowForm s (.next (s.command p tag .resetFull State.serveResetFull))
  | transport {t : State} (hclosed : ∀ P, PortClosed P → P s → P t) (hlow : s.resetLow = true → t = s) :
      RowForm s (.next t)

section Rows

variable {s : State}

/-- A request row changes nothing where the channel has no request posted (R40). -/
theorem RowForm.request (c : Ch) {t : State} (hside : t.portSide = s.portSide) (hnone : (s.ch c).request = none → t = s) :
    RowForm s (.next t) :=
  .event hside fun h => hnone (h.request c)

/-- A transport row that does nothing while nRESET is held low, and else what the ports' operations do (R161). -/
theorem RowForm.unlessLow {t : State} (hclosed : ∀ P, PortClosed P → P s → P t) :
    RowForm s (.next (if s.resetLow then s else t)) := by
  refine .transport (fun P hP h => ?_) fun hl => if_pos hl
  split
  next => exact h
  next => exact hclosed P hP h

variable (s)

/-- Every row that is not of the pins has one of the four forms. -/
theorem exec_rowForm (i : Instr) (hi : ¬Instr.ofPins i) : RowForm s (exec i s) := by
  cases i with
  | powerOn _ | nresetAssert | nresetRelease _ => exact absurd trivial hi
  | commandFrameStart p =>
    cases p <;> exact .unlessLow fun P hP h => hP.setSent _ _ _ _ (hP.frameStart _ _ h)
  | commandFrameEnd p bytes =>
    exact .transport (fun P hP h => hP.frameEnd _ p bytes h) fun hl => s.frameEnd_of_resetLow p bytes hl
  | responseReadEnd p course taken =>
    cases course with
    | whole ready => exact .unlessLow fun P hP h => hP.endRead h p ready taken
    | cut ready after => exact .unlessLow fun P hP h => hP.endCutRead h p ready after taken
  | hostCommandTransaction type bytes =>
    exact .transport (fun P hP h => hP.hostTransaction h type bytes) fun hl => if_pos hl
  | hostReadResponse count => exact .transport (fun P hP h => hP.hostTransaction h _ _) fun hl => if_pos hl
  | monitorWriteTransfer address bytes =>
    refine .unlessLow fun P hP h => ?_
    split
    next =>
      split
      next => exact hP.setSent _ _ _ _ h
      next => exact hP.setSent _ _ _ _ (hP.frameEnd _ _ _ (hP.frameStart _ _ h))
    next => exact hP.setSent _ _ _ _ h
  | monitorReadTransfer address count =>
    refine .unlessLow fun P hP h => ?_
    split
    next => exact hP.setSent _ _ _ _ (hP.readEnd _ _ _ h)
    next => exact hP.setSent _ _ _ _ h
  | readDevice => exact .command served_readDevice _ _ _
  | setupDevice => exact .command (served_setup _ _ _ _ _) _ _ _
  | resetDeviceFull p tag => exact .resetFull p tag
  | resetDeviceChannels p tag selector =>
    by_cases hsel : selector = 0
    · subst hsel
      exact .resetFull p tag
    · have hrow : exec (.resetDeviceChannels p tag selector) s = .next (s.command p tag (resetCommand selector)
          (if selector = 0 then State.serveResetFull else State.serveResetOther selector)) := rfl
      rw [hrow, if_neg hsel]
      exact .command (served_resetOther selector) _ _ _
  | readRecord => exact .command (served_readRecord _) _ _ _
  | listRecordsStart => exact .command served_listStart _ _ _
  | listRecordsAfterKey =>
    refine .command ?_ _ _ _
    split
    next => exact served_listStart
    next => exact served_listAfter _ _ _ _
  | findFormat => exact .command (served_findFormat _ _ _ _ _ _ _) _ _ _
  | openEdit =>
    refine .command ?_ _ _ _
    split
    next => exact served_openNew
    next => exact served_open _ _
  | openEditNew => exact .command served_openNew _ _ _
  | setField => exact .command (served_setField _ _ _) _ _ _
  | clearField => exact .command (served_clearField _ _) _ _ _
  | readEdit => exact .command (served_readEdit _) _ _ _
  | commitEdit => exact .command (served_commitEdit _) _ _ _
  | dropEdit => exact .command (served_dropEdit _) _ _ _
  | leaseExpiry id =>
    refine .event ?side fun h => ?still
    case side =>
      split
      next e _ => exact s.portSide_freeContextOf id e
      next => rfl
    case still => rw [h.edits]
  | retireRecord => exact .command (served_retireRecord _) _ _ _
  | retireTimerExpiry r =>
    refine .event ?side fun h => ?still
    case side =>
      split
      next => exact s.portSide_expireRetirement r
      next => rfl
    case still => exact if_neg (by simp [h.retiring])
  | forceBinding => exact .command (.withChannel (fun c => served_force c _) _) _ _ _
  | configureChannel => exact .command (.withChannel (fun c => served_configure c _) _) _ _ _
  | startChannel => exact .command (.withChannel served_start _) _ _ _
  | stopChannel => exact .command (.withChannel served_stop _) _ _ _
  | rearmChannel => exact .command (.withChannel served_rearm _) _ _ _
  | readChannel => exact .command (.withChannel served_readChannel _) _ _ _
  | readMeasurement => exact .command (.withChannel served_readMeasurement _) _ _ _
  | flushShortlist => exact .command (.withChannel served_flush _) _ _ _
  | readEvents => exact .command served_readEvents _ _ _
  | clearEvents => exact .command (served_clearEvents _ _) _ _ _
  | setEventMasks => exact .command (served_setEventMasks _ _ _) _ _ _
  | matchRequest c =>
    refine .request c ?_ fun h => by rw [h]
    split
    next m _ => exact s.portSide_grantChannel c fun t => t.portSide_serveMatch c m
    next => rfl
  | rematchRequest c =>
    refine .request c ?_ fun h => by rw [h]
    split
    next m _ => exact s.portSide_grantChannel c fun t => t.portSide_serveRematch c m
    next => rfl
  | shortlistRebuild c =>
    refine .request c ?_ fun h => by rw [h]
    split
    next => exact s.portSide_grantChannel c fun _ => rfl
    next => rfl
  | releaseRequest c =>
    refine .request c ?_ fun h => by rw [h]
    split
    next hold _ => exact s.portSide_grantChannel c fun t => State.portSide_of_outside t.outside_serveRelease
    next => rfl
  | lmCycleComplete c high cycle => exact .event rfl fun h => h.cycleComplete c .lm high cycle
  | vmCycleComplete c high cycle => exact .event rfl fun h => h.cycleComplete c .vm high cycle
  | polarityChange c input => exact .event (s.portSide_changePolarity c input) fun h => h.changePolarity c input
  | lineMarker c ticks => exact .event (s.portSide_lineMarker c ticks) fun h => h.lineMarker c ticks
  | longLinePeriod c => exact .event (s.portSide_longLine c) fun h => h.longLine c
  | blockBoundary c => exact .event (s.portSide_blockBoundary c) fun h => h.blockBoundary c
  | verticalMarker c => exact .event (s.portSide_verticalMarker c) fun h => h.verticalMarker c
  | longVerticalInterval c => exact .event (s.portSide_longInterval c) fun h => h.longInterval c
  | syncWidthComplete c => exact .event rfl fun h => h.closeWidth c
  | lineLossExpiry c => exact .event (s.portSide_lineLossExpires c) fun h => h.lineLossExpires c
  | verticalLossExpiry c => exact .event (s.portSide_verticalLossExpires c) fun h => h.verticalLossExpires c
  | holdLimitExpiry c => exact .event (s.portSide_holdLimitExpires c) fun h => h.holdLimitExpires c
  | substituteFrameStart c => exact .event (s.portSide_substituteFrameStart c) fun h => h.substituteFrameStart c
  | substituteLine c => exact .event rfl fun h => h.substituteLine c
  | announceFrameComplete => exact .event s.portSide_frameComplete fun h => h.frameComplete
  | subLmPulseEnd c => exact .event rfl fun h => h.endSubPulse c

end Rows

end Sys2Proof.Machine
end

section
/-! PROOFS. Every row completes and leaves the queue (entries 1 and 3); every step keeps the command slots lawful, and a part held in
reset at its reset values (R149 to R153, R156, R160, R161). -/

namespace Sys2Proof.Machine

/-! ### The level of nRESET and the queue -/

/-- What every row but those of the pins leaves. -/
def State.levels (s : State) : Bool × List Instr := (s.resetLow, s.pending)

section Levels

variable {s t : State}

theorem State.levels_iff : t.levels = s.levels ↔ t.resetLow = s.resetLow ∧ t.pending = s.pending := by
  simp [State.levels]

theorem State.levels_of_portSide (h : t.portSide = s.portSide) : t.levels = s.levels := by
  obtain ⟨-, -, -, hlow, hpending⟩ := State.portSide_iff.1 h
  exact State.levels_iff.2 ⟨hlow, hpending⟩

variable (s) (p : Port)

@[simp] theorem State.levels_setPort (v : PortState) : (s.setPort p v).levels = s.levels := by cases p <;> rfl

@[simp] theorem State.levels_respond (r : Response) : (s.respond p r).levels = s.levels := s.levels_setPort p _

@[simp] theorem State.levels_atFirstByte : s.atFirstByte.levels = s.levels := by
  unfold State.atFirstByte
  split <;> rfl

theorem State.frameStart_of_resetLow (hl : s.resetLow = true) : s.frameStart p = s := if_pos hl

/-- The first byte of a frame outside reset changes its port alone, of the part as it finds it (R151, R160). -/
theorem State.frameStart_eq_setPort (hl : s.resetLow = false) :
    ∃ v, s.frameStart p = s.atFirstByte.setPort p v ∧ (v.slot = .receiving ∨ v.slot = (s.atFirstByte.port p).slot) := by
  by_cases he : (s.atFirstByte.port p).slot = .empty
  · exact ⟨_, State.frameStart_of_empty p hl he, .inl rfl⟩
  · exact ⟨_, State.frameStart_of_occupied p hl he, .inr rfl⟩

@[simp] theorem State.levels_frameStart : (s.frameStart p).levels = s.levels := by
  cases hl : s.resetLow with
  | true => rw [s.frameStart_of_resetLow p hl]
  | false =>
    obtain ⟨v, heq, -⟩ := s.frameStart_eq_setPort p hl
    rw [heq, State.levels_setPort, State.levels_atFirstByte]

/-- The arrival of a whole frame changes nothing, or makes the command stand in EXECUTING, or answers READ_ONLY (R150, entry 2). -/
theorem State.present_cases (tag : Byte) (cmd : Cmd) :
    s.present p tag cmd = s ∨
      (s.resetLow = false ∧ cmd.allowedOn p = true ∧ s.present p tag cmd = (s.frameStart p).handed p tag cmd) ∨
      (s.resetLow = false ∧
        s.present p tag cmd = (s.frameStart p).respond p { status := .readOnly, tag := tag, data := [] }) := by
  unfold State.present
  split
  next => exact .inl rfl
  next hl =>
    have hl : s.resetLow = false := by simpa using hl
    split
    next =>
      dsimp only
      split
      next hallowed => exact .inr (.inl ⟨hl, hallowed, rfl⟩)
      next => exact .inr (.inr ⟨hl, rfl⟩)
    next => exact .inl rfl

@[simp] theorem State.levels_present (tag : Byte) (cmd : Cmd) : (s.present p tag cmd).levels = s.levels := by
  rcases s.present_cases p tag cmd with heq | ⟨-, -, heq⟩ | ⟨-, heq⟩
  · rw [heq]
  · rw [heq, State.handed, State.levels_setPort, State.levels_frameStart]
  · rw [heq, State.levels_respond, State.levels_frameStart]

variable {serve : State → State × Reply}

theorem State.levels_take (hserve : ∀ t, (serve t).1.levels = t.levels) (tag : Byte) (cmd : Cmd) :
    (s.take p tag cmd serve).levels = s.levels := by
  rcases s.take_cases p tag cmd serve with heq | ⟨g, r, heq⟩
  · rw [heq]
  · rw [heq, State.levels_respond, hserve]
    rfl

theorem State.levels_command (hserve : ∀ t, (serve t).1.levels = t.levels) (tag : Byte) (cmd : Cmd) :
    (s.command p tag cmd serve).levels = s.levels := by
  rw [State.command, State.levels_take _ p hserve]
  split
  next => rfl
  next => exact s.levels_present p tag cmd

theorem Served.levels (hserve : Served serve) (t : State) : (serve t).1.levels = t.levels :=
  State.levels_of_portSide (hserve t).1

@[simp] theorem State.levels_handOver (tag : Byte) (cmd : Cmd) : (s.handOver p tag cmd).levels = s.levels := by
  have hhanded : (s.handed p tag cmd).levels = s.levels := s.levels_setPort p _
  cases cmd with
  | resetFull => exact (State.levels_take _ p (fun _ => rfl) tag _).trans hhanded
  | resetOther selector => exact (State.levels_take _ p (served_resetOther selector).levels tag _).trans hhanded
  | _ => exact hhanded

end Levels

/-- The ports' operations leave the level of nRESET and the queue. -/
theorem portClosed_levels (l : Bool × List Instr) : PortClosed fun s => s.levels = l where
  frameStart s p h := (s.levels_frameStart p).trans h
  frameEnd s p bytes h := by
    unfold State.frameEnd
    split
    next => exact h
    next =>
      split
      next => exact (s.levels_setPort p _).trans h
      next =>
        split
        next =>
          split
          next => exact (s.levels_respond p _).trans h
          next => exact (s.levels_handOver p _ _).trans h
        next => exact h
  readEnd s p taken h := by
    unfold State.readEnd
    split
    next =>
      split
      next =>
        split
        next => exact h
        next => exact (s.levels_setPort p _).trans h
      next => exact h
    next => exact h
  setSent s p sent acks h := (s.levels_setPort p _).trans h

/-- Every row that is not of the pins completes, and leaves the level of nRESET and the queue. -/
theorem RowForm.levels {s : State} {o : Host.Outcome State Fault Refusal} (h : RowForm s o) :
    ∃ t, o = .next t ∧ t.levels = s.levels := by
  cases h with
  | event hside => exact ⟨_, rfl, State.levels_of_portSide hside⟩
  | command hserve p tag cmd => exact ⟨_, rfl, s.levels_command p hserve.levels tag cmd⟩
  | resetFull p tag => exact ⟨_, rfl, s.levels_command p (fun _ => rfl) tag _⟩
  | transport hclosed => exact ⟨_, rfl, hclosed _ (portClosed_levels s.levels) rfl⟩

/-- Settles O3: the pins' rows leave the queue in their full reset, and every other row has one of four forms. -/
theorem everyCommandCompletesAndKeepsTheQueue : Obligations.EveryCommandCompletesAndKeepsTheQueue := by
  intro i s
  by_cases hi : Instr.ofPins i
  · cases i with
    | powerOn ma => exact ⟨_, rfl, rfl⟩
    | nresetAssert => exact ⟨_, rfl, rfl⟩
    | nresetRelease ma =>
      refine ⟨_, rfl, ?_⟩
      split <;> rfl
    | _ => exact hi.elim
  · obtain ⟨t, ht, hlevels⟩ := (exec_rowForm s i hi).levels
    exact ⟨t, ht, (State.levels_iff.1 hlevels).2⟩

/-! ### The laws of the command slots (R149, R150, R152, R156, R160) -/

section PortLaws

variable {s t : State} {p : Port}

/-- The port laws, port by port, and that of a waiting full reset. -/
theorem State.portsLawful_iff :
    s.portsLawful = true ↔ (∀ p, (s.port p).lawful p = true) ∧
      (s.resetWaiting = true → ∃ tag, s.host.slot = .ready { status := .done, tag := tag, data := [] }) := by
  have hports : (∀ p, (s.port p).lawful p = true) ↔ s.host.lawful .host = true ∧ s.monitor.lawful .monitor = true :=
    ⟨fun h => ⟨h .host, h .monitor⟩, fun ⟨hhost, hmonitor⟩ p => by cases p <;> assumption⟩
  rw [hports, State.portsLawful, Bool.and_eq_true, Bool.and_eq_true]
  refine and_congr_right fun _ => ?_
  cases s.resetWaiting with
  | false => simp
  | true =>
    cases hslot : s.host.slot with
    | ready r =>
      obtain ⟨status, tag, data⟩ := r
      simp
    | _ => simp

/-- The port laws rest on what lies outside the blocks. -/
theorem State.portsLawful_congr (h : t.portSide = s.portSide) : t.portsLawful = s.portsLawful := by
  obtain ⟨hhost, hmonitor, hwaiting, -, -⟩ := State.portSide_iff.1 h
  simp only [State.portsLawful, hhost, hmonitor, hwaiting]

theorem State.portSide_setPort (h : t.portSide = s.portSide) (v : PortState) :
    (t.setPort p v).portSide = (s.setPort p v).portSide := by
  obtain ⟨hhost, hmonitor, hwaiting, hlow, hpending⟩ := State.portSide_iff.1 h
  cases p <;> simp [State.portSide, State.setPort, hhost, hmonitor, hwaiting, hlow, hpending]

/-- A lawful port put in place keeps the port laws, unless it takes away the unread DONE of a waiting full reset. -/
theorem State.portsLawful_setPort (h : s.portsLawful = true) {v : PortState} (hv : v.lawful p = true)
    (hw : s.resetWaiting = true → p = .host → v.slot = s.host.slot) : (s.setPort p v).portsLawful = true := by
  obtain ⟨hports, hwait⟩ := State.portsLawful_iff.1 h
  refine State.portsLawful_iff.2 ⟨fun q => ?_, fun hwaiting => ?_⟩
  · by_cases hq : q = p
    · subst hq
      rw [State.port_setPort_same]
      exact hv
    · rw [State.port_setPort_ne _ _ _ _ hq]
      exact hports q
  · have hwaiting : s.resetWaiting = true := by simpa using hwaiting
    obtain ⟨tag, hslot⟩ := hwait hwaiting
    refine ⟨tag, ?_⟩
    cases p with
    | host => exact (hw hwaiting rfl).trans hslot
    | monitor => exact hslot

/-- A port's law is one of its slot. -/
theorem PortState.lawful_congr {v w : PortState} (h : v.slot = w.slot) : v.lawful p = w.lawful p := by
  simp only [PortState.lawful, h]

/-- A port whose slot is kept keeps the port laws. -/
theorem State.portsLawful_setPort_of_slot (h : s.portsLawful = true) {v : PortState} (hv : v.slot = (s.port p).slot) :
    (s.setPort p v).portsLawful = true := by
  refine State.portsLawful_setPort h ?_ fun _ hp => ?_
  · rw [PortState.lawful_congr hv]
    exact (State.portsLawful_iff.1 h).1 p
  · subst hp
    exact hv

/-- A waiting full reset leaves no host command in EXECUTING or arriving: its DONE stands unread (R160). -/
theorem State.waiting_slot (h : s.portsLawful = true) {x : CommandSlot} (hx : (s.port p).slot = x) (hready : ∀ r, x ≠ .ready r) :
    s.resetWaiting = true → p ≠ .host := by
  rintro hw rfl
  obtain ⟨tag, hslot⟩ := (State.portsLawful_iff.1 h).2 hw
  exact hready _ (hx.symm.trans hslot)

theorem State.portsLawful_fullReset (s : State) : s.fullReset.portsLawful = true := rfl

theorem State.portsLawful_atFirstByte (h : s.portsLawful = true) : s.atFirstByte.portsLawful = true := by
  unfold State.atFirstByte
  split
  next => exact s.portsLawful_fullReset
  next => exact h

/-- No full reset waits once a first byte has come (R160). -/
theorem State.resetWaiting_atFirstByte (s : State) : s.atFirstByte.resetWaiting = false := by
  unfold State.atFirstByte
  split
  next => rfl
  next hw => simpa using hw

theorem State.portsLawful_frameStart (h : s.portsLawful = true) (p : Port) : (s.frameStart p).portsLawful = true := by
  cases hl : s.resetLow with
  | true => rw [s.frameStart_of_resetLow p hl]; exact h
  | false =>
    obtain ⟨v, heq, hv⟩ := s.frameStart_eq_setPort p hl
    rw [heq]
    rcases hv with hv | hv
    · refine State.portsLawful_setPort (State.portsLawful_atFirstByte h) ?_ fun hw => ?_
      · simp only [PortState.lawful, hv]
      · rw [State.resetWaiting_atFirstByte] at hw
        cases hw
    · exact State.portsLawful_setPort_of_slot (State.portsLawful_atFirstByte h) hv

theorem State.resetWaiting_frameStart (hl : s.resetLow = false) (p : Port) : (s.frameStart p).resetWaiting = false := by
  obtain ⟨v, heq, -⟩ := s.frameStart_eq_setPort p hl
  rw [heq, State.setPort_resetWaiting, State.resetWaiting_atFirstByte]

/-! ### Commands taken -/

variable {tag : Byte} {cmd : Cmd} {serve : State → State × Reply}

/-- A lawful response placed keeps the port laws where it does not overwrite the DONE of a waiting full reset. -/
theorem State.portsLawful_respond (h : s.portsLawful = true) {r : Response} (hr : r.lawful = true)
    (hw : s.resetWaiting = true → p ≠ .host) : (s.respond p r).portsLawful = true :=
  State.portsLawful_setPort h hr fun hwaiting hp => absurd hp (hw hwaiting)

/-- A command taken is one that stands in EXECUTING. -/
theorem State.take_of_not_executing (hx : (s.port p).slot ≠ .executing tag cmd) : s.take p tag cmd serve = s := by
  simp [State.take, hx]

/-- The controller takes no command of the port's own (R152). -/
theorem byPort_of_byController {cmd : Cmd} (h : cmd.byController = true) : cmd.byPort = false := by
  cases hport : cmd.byPort with
  | false => rfl
  | true =>
    cases cmd with
    | resetFull | resetOther => cases h
    | _ => cases hport

/-- A command put in EXECUTING and taken where its block may take it keeps the port laws (R149, R152). -/
theorem State.portsLawful_take_handed (h : s.portsLawful = true) (hserve : Served serve) (ha : cmd.allowedOn p = true)
    (hw : s.resetWaiting = true → p ≠ .host) : ((s.handed p tag cmd).take p tag cmd serve).portsLawful = true := by
  have hx : ((s.handed p tag cmd).port p).slot = .executing tag cmd := s.executing_handed p tag cmd
  cases hm : (s.handed p tag cmd).mayTake p cmd with
  | false =>
    have hcontroller : cmd.byController = true := by
      simp only [State.mayTake, Bool.or_eq_false_iff, Bool.not_eq_false'] at hm
      exact hm.1
    rw [State.take_waits _ p tag cmd serve hm]
    refine State.portsLawful_setPort h ?_ fun hwaiting hp => absurd hp (hw hwaiting)
    simp [PortState.lawful, ha, byPort_of_byController hcontroller]
  | true =>
    rw [State.take_executing _ p tag cmd serve hx hm]
    generalize hgranted : (if cmd.byController then { s.handed p tag cmd with granted := portRequester p }
      else s.handed p tag cmd) = u
    have hside : (serve u).1.portSide = (s.handed p tag cmd).portSide := by
      rw [(hserve u).1, ← hgranted]
      split <;> rfl
    rw [State.respond, State.portsLawful_congr (State.portSide_setPort hside _), State.handed, State.setPort_setPort]
    exact State.portsLawful_setPort h ((hserve u).2 tag) fun hwaiting hp => absurd hp (hw hwaiting)

theorem State.handed_of_executing (hx : (s.port p).slot = .executing tag cmd) : s.handed p tag cmd = s := by
  rw [State.handed, ← hx, State.setPort_port]

theorem State.portsLawful_take (h : s.portsLawful = true) (hserve : Served serve) :
    (s.take p tag cmd serve).portsLawful = true := by
  by_cases hx : (s.port p).slot = .executing tag cmd
  · have hlawful := (State.portsLawful_iff.1 h).1 p
    have ha : cmd.allowedOn p = true := by
      simp only [PortState.lawful, hx, Bool.and_eq_true] at hlawful
      exact hlawful.1
    have htaken := State.portsLawful_take_handed (tag := tag) h hserve ha
      (State.waiting_slot h hx fun _ hr => by cases hr)
    rwa [State.handed_of_executing hx] at htaken
  · rw [State.take_of_not_executing hx]
    exact h

/-- RESET DEVICE FULL on the port that takes it places the DONE that stands unread while the reset waits (R160). -/
theorem State.portsLawful_handOver_resetFull (h : s.portsLawful = true) (ha : Cmd.resetFull.allowedOn p = true) :
    (s.handOver p tag .resetFull).portsLawful = true := by
  cases p with
  | monitor => cases ha
  | host =>
    rw [State.handOver_resetFull]
    exact State.portsLawful_iff.2 ⟨fun q => by
      cases q with
      | host => rfl
      | monitor => exact (State.portsLawful_iff.1 h).1 .monitor, fun _ => ⟨tag, rfl⟩⟩

/-- A command handed over keeps the port laws (R149, R152). -/
theorem State.portsLawful_handOver (h : s.portsLawful = true) (ha : cmd.allowedOn p = true)
    (hw : s.resetWaiting = true → p ≠ .host) : (s.handOver p tag cmd).portsLawful = true := by
  cases hport : cmd.byPort with
  | false =>
    rw [s.handOver_waits p tag cmd hport]
    refine State.portsLawful_setPort h ?_ fun hwaiting hp => absurd hp (hw hwaiting)
    simp [PortState.lawful, ha, hport]
  | true =>
    cases cmd with
    | resetFull => exact State.portsLawful_handOver_resetFull h ha
    | resetOther selector => exact State.portsLawful_take_handed h (served_resetOther selector) ha hw
    | _ => cases hport

/-- A command's row keeps the port laws, where its taking does on a part that a frame has just reached. -/
theorem State.portsLawful_command_of (h : s.portsLawful = true)
    (htake : ∀ t : State, t.portsLawful = true → (t.take p tag cmd serve).portsLawful = true)
    (hfresh : ∀ t : State, t.portsLawful = true → t.resetWaiting = false → cmd.allowedOn p = true →
      ((t.handed p tag cmd).take p tag cmd serve).portsLawful = true) :
    (s.command p tag cmd serve).portsLawful = true := by
  unfold State.command
  split
  next => exact htake s h
  next =>
    rcases s.present_cases p tag cmd with heq | ⟨hl, hallowed, heq⟩ | ⟨hl, heq⟩
    · rw [heq]
      exact htake s h
    · rw [heq]
      exact hfresh _ (State.portsLawful_frameStart h p) (State.resetWaiting_frameStart hl p) hallowed
    · rw [heq]
      refine htake _ (State.portsLawful_respond (State.portsLawful_frameStart h p) rfl fun hwaiting => ?_)
      rw [State.resetWaiting_frameStart hl p] at hwaiting
      cases hwaiting

theorem State.portsLawful_command (h : s.portsLawful = true) (hserve : Served serve) :
    (s.command p tag cmd serve).portsLawful = true :=
  State.portsLawful_command_of h (fun _ ht => State.portsLawful_take ht hserve) fun _ ht hw ha =>
    State.portsLawful_take_handed ht hserve ha fun hwaiting => by rw [hw] at hwaiting; cases hwaiting

theorem State.portsLawful_command_resetFull (h : s.portsLawful = true) :
    (s.command p tag .resetFull State.serveResetFull).portsLawful = true := by
  refine State.portsLawful_command_of h (fun t ht => ?_) fun t ht _ ha => State.portsLawful_handOver_resetFull ht ha
  have hx : (t.port p).slot ≠ .executing tag .resetFull := fun hx => by
    have hlawful := (State.portsLawful_iff.1 ht).1 p
    simp [PortState.lawful, hx, Cmd.byPort] at hlawful
  rw [State.take_of_not_executing hx]
  exact ht

/-! ### The ends of frames and of reads -/

/-- The intake checks answer an outcome, or pass a command that the port accepts (R150, R156). -/
theorem intake_cases (p : Port) (bytes : List Byte) :
    (∃ e : Status, e.outcome = true ∧ intake p bytes = .error e) ∨
      ∃ cmd : Cmd, cmd.allowedOn p = true ∧ intake p bytes = .ok cmd := by
  by_cases hs : FrameSized bytes
  · obtain ⟨code, tag, len, rest, rfl⟩ := hs.parts
    by_cases hcrc : crcOf (code :: tag :: len :: rest) = 0
    · cases hn : parameterLength code with
      | none => exact .inl ⟨_, rfl, intake_of_unknown p hs hcrc hn⟩
      | some n =>
        by_cases hlen : len.toNat = n
        · obtain ⟨cmd, hcmd, -⟩ := parseCommand_total (hn.trans (congrArg some (hs.length_take hlen).symm))
          have hintake := intake_of_command p hs hcrc hn hlen hcmd
          by_cases ha : cmd.allowedOn p = true
          · exact .inr ⟨cmd, ha, hintake.trans (if_pos ha)⟩
          · exact .inl ⟨_, rfl, hintake.trans (if_neg ha)⟩
        · exact .inl ⟨_, rfl, intake_of_bad_length p hs hcrc hn hlen⟩
    · exact .inl ⟨_, rfl, intake_of_bad_check p hs hcrc⟩
  · exact .inl ⟨_, rfl, intake_of_not_sized p hs⟩

theorem State.portsLawful_frameEnd (h : s.portsLawful = true) (p : Port) (bytes : List Byte) :
    (s.frameEnd p bytes).portsLawful = true := by
  cases hl : s.resetLow with
  | true => rw [s.frameEnd_of_resetLow p bytes hl]; exact h
  | false =>
    cases hr : (s.port p).refusing with
    | true =>
      rw [s.frameEnd_of_refusing p bytes hl hr]
      exact State.portsLawful_setPort_of_slot h rfl
    | false =>
      by_cases hx : (s.port p).slot = .receiving
      · have hw := State.waiting_slot h hx fun _ hr => by cases hr
        rw [s.frameEnd_receiving p bytes hl hr hx]
        rcases intake_cases p bytes with ⟨e, he, hintake⟩ | ⟨cmd, ha, hintake⟩
        · rw [hintake]
          exact State.portsLawful_respond h (Reply.lawful_of e he _) hw
        · rw [hintake]
          exact State.portsLawful_handOver h ha hw
      · rw [s.frameEnd_of_no_frame p bytes hr hx]
        exact h

/-- A response taken whole frees its slot, or takes the waiting full reset into effect (R153, R160). -/
theorem State.portsLawful_readEnd (h : s.portsLawful = true) (p : Port) (taken : Nat) :
    (s.readEnd p taken).portsLawful = true := by
  unfold State.readEnd
  split
  next =>
    split
    next =>
      split
      next => exact s.portsLawful_fullReset
      next hw =>
        refine State.portsLawful_setPort h rfl fun hwaiting hp => ?_
        simp [hwaiting, hp] at hw
    next => exact h
  next => exact h

/-- The ports' operations keep the port laws. -/
theorem portClosed_portsLawful : PortClosed fun s => s.portsLawful = true where
  frameStart _ p h := State.portsLawful_frameStart h p
  frameEnd _ p bytes h := State.portsLawful_frameEnd h p bytes
  readEnd _ p taken h := State.portsLawful_readEnd h p taken
  setSent _ _ _ _ h := State.portsLawful_setPort_of_slot h rfl

/-- Every row that is not of the pins keeps the port laws. -/
theorem RowForm.portsLawful {s t : State} (h : RowForm s (.next t)) (hlawful : s.portsLawful = true) :
    t.portsLawful = true := by
  cases h with
  | event hside => rw [State.portsLawful_congr hside, hlawful]
  | command hserve => exact State.portsLawful_command hlawful hserve
  | resetFull => exact State.portsLawful_command_resetFull hlawful
  | transport hclosed => exact hclosed _ portClosed_portsLawful hlawful

end PortLaws

/-! ### The part held in reset (R161) -/

/-- The part while nRESET is held low: every block at its full reset value. -/
structure State.HeldLow (s : State) : Prop where
  low : s.resetLow = true
  blocks : s = { s.fullReset with
    host := { PortState.initial with lost := s.host.lost }, monitor := { PortState.initial with lost := s.monitor.lost } }

section HeldLow

variable {s t : State}

/-- The law of the reset pin speaks of a part held in reset. -/
theorem State.resetLaw_iff : s.resetLaw = true ↔ (s.resetLow = true → s.HeldLow) := by
  rw [State.resetLaw, Bool.or_eq_true, Bool.not_eq_true', beq_iff_eq]
  constructor
  · rintro (hhigh | hblocks) hlow
    · rw [hlow] at hhigh
      cases hhigh
    · exact ⟨hlow, hblocks⟩
  · intro h
    cases hlow : s.resetLow with
    | false => exact .inl rfl
    | true => exact .inr (h hlow).blocks

theorem State.resetLaw_of_high (h : s.resetLow = false) : s.resetLaw = true :=
  State.resetLaw_iff.2 fun hlow => by rw [h] at hlow; cases hlow

variable (h : s.HeldLow)

include h

theorem State.HeldLow.slot (p : Port) : (s.port p).slot = .empty := by
  rw [h.blocks]
  cases p <;> rfl

theorem State.HeldLow.still : s.Still where
  channels c := by
    rw [h.blocks]
    exact Vector.getElem_replicate c.isLt
  edits id := by
    rw [h.blocks]
    exact Vector.getElem_replicate id.isLt
  retiring := by rw [h.blocks]; rfl
  link := by rw [h.blocks]; rfl

/-- A part held in reset takes no command (R161). -/
theorem State.HeldLow.command (p : Port) (tag : Byte) (cmd : Cmd) (serve : State → State × Reply) :
    s.command p tag cmd serve = s := by
  have hx : (s.port p).slot ≠ .executing tag cmd := by simp [h.slot p]
  have hpresent : s.present p tag cmd = s := if_pos h.low
  rw [State.command, if_neg hx, hpresent, State.take_of_not_executing hx]

/-- No row but those of the pins changes a part held in reset (R161). -/
theorem RowForm.eq_of_heldLow (hrow : RowForm s (.next t)) : t = s := by
  cases hrow with
  | event _ hstill => exact hstill h.still
  | command => exact h.command _ _ _ _
  | resetFull => exact h.command _ _ _ _
  | transport _ hlow => exact hlow h.low

end HeldLow

/-! ### The step -/

section Step

variable {s t : State}

/-- Every row keeps the port laws and the law of a part held in reset. -/
theorem exec_keeps_portAndResetLaws {i : Instr} (hexec : exec i s = .next t) :
    (s.portsLawful = true → t.portsLawful = true) ∧ (s.resetLaw = true → t.resetLaw = true) := by
  by_cases hi : Instr.ofPins i
  · cases i with
    | powerOn ma =>
      cases hexec
      exact ⟨fun _ => State.portsLawful_fullReset _, fun _ => State.resetLaw_of_high rfl⟩
    | nresetAssert =>
      cases hexec
      exact ⟨fun _ => State.portsLawful_fullReset _, fun _ => State.resetLaw_iff.2 fun _ => ⟨rfl, rfl⟩⟩
    | nresetRelease ma =>
      cases hexec
      cases hlow : s.resetLow with
      | true => exact ⟨id, fun _ => State.resetLaw_of_high rfl⟩
      | false => exact ⟨id, id⟩
    | _ => exact hi.elim
  · have hrow : RowForm s (.next t) := hexec ▸ exec_rowForm s i hi
    refine ⟨hrow.portsLawful, fun hlaw => ?_⟩
    cases hlow : s.resetLow with
    | true => rwa [RowForm.eq_of_heldLow (State.resetLaw_iff.1 hlaw hlow) hrow]
    | false =>
      obtain ⟨u, hu, hlevels⟩ := hrow.levels
      cases hu
      exact State.resetLaw_of_high ((State.levels_iff.1 hlevels).1.trans hlow)

theorem State.portSide_clockEdge (s : State) : s.clockEdge.portSide = s.portSide := by
  unfold State.clockEdge State.linkEdge
  split <;> rfl

/-- The part's own work reaches the ports by the queue alone, and no edge counts while nRESET is held low (entry 1). -/
theorem State.idle_keeps_portAndResetLaws :
    (s.portsLawful = true → s.idle.portsLawful = true) ∧ (s.resetLaw = true → s.idle.resetLaw = true) := by
  unfold State.idle
  split
  next => exact ⟨id, id⟩
  next hhigh =>
    have hhigh : s.resetLow = false := by simpa using hhigh
    split
    next => exact ⟨id, fun _ => State.resetLaw_of_high hhigh⟩
    next =>
      refine ⟨fun h => (State.portsLawful_congr s.portSide_clockEdge).trans h, fun _ => State.resetLaw_of_high ?_⟩
      exact (State.levels_iff.1 (State.levels_of_portSide s.portSide_clockEdge)).1.trans hhigh

end Step

/-- Settles O11: a step is a row on the queue's rest, or the part's own work. -/
theorem everyStepKeepsPortAndResetLaws : Obligations.EveryStepKeepsPortAndResetLaws := by
  intro s t hstep
  unfold step at hstep
  split at hstep
  next =>
    cases hstep
    exact State.idle_keeps_portAndResetLaws
  next i rest _ =>
    obtain ⟨hports, hreset⟩ := exec_keeps_portAndResetLaws hstep
    refine ⟨hports, fun hlaw => hreset (State.resetLaw_iff.2 fun hlow => ⟨hlow, ?_⟩)⟩
    have hheld := State.resetLaw_iff.1 hlaw hlow
    exact congrArg (fun u : State => { u with pending := rest }) hheld.blocks

end Sys2Proof.Machine
end

section
/-! PROOFS. The event unit: its flags by their bits, the level of nIRQ, and READ EVENTS, CLEAR EVENTS and SET EVENT MASKS (R164,
R168 to R173). -/

namespace Sys2Proof.Machine

open Sys2Proof.Claims

/-! ### Vectors over the channels -/

section Vectors

variable {α : Type} (v : Vector α 6)

/-- A vector over the channels holds its six elements in the order of their numbers. -/
theorem toList_eq_map_channels : v.toList = channels.map fun c => v[c.val] := by
  refine List.ext_getElem (by simp [channels]) fun i hi _ => ?_
  rw [Vector.length_toList] at hi
  match i, hi with
  | 0, _ | 1, _ | 2, _ | 3, _ | 4, _ | 5, _ => rfl

/-- Changing one channel's element leaves those of the other five. -/
theorem set_eq_ofFn (c : Ch) (f : α → α) :
    v.set c.val (f v[c.val]) = Vector.ofFn fun d : Ch => if d = c then f v[d.val] else v[d.val] := by
  refine Vector.ext fun i hi => ?_
  rw [Vector.getElem_ofFn]
  by_cases hic : (⟨i, hi⟩ : Ch) = c
  · rw [if_pos hic]
    subst hic
    exact Vector.getElem_set_self hi
  · rw [if_neg hic]
    exact Vector.getElem_set_ne c.isLt hi fun hval => hic (Fin.ext hval.symm)

end Vectors

/-! ### The flags by their bits (R164) -/

theorem ChannelFlag.bit_lt (f : ChannelFlag) : f.bit < 9 := by cases f <;> decide

theorem flagTable_bit (f : ChannelFlag) : flagTable[f.bit]? = some f := by cases f <;> rfl

theorem deviceFlagTable_bit (f : DeviceFlag) : deviceFlagTable[f.bit]? = some f := by cases f <;> rfl

/-- A channel flag stands in R164's order at its own bit alone. -/
theorem eq_bit_of_flagTable {k : Nat} {f : ChannelFlag} (h : flagTable[k]? = some f) : k = f.bit :=
  (List.getElem?_inj (List.getElem?_eq_some_iff.1 h).1 (by decide)).1 (h.trans (flagTable_bit f).symm)

/-- A device flag stands in R164's order at its own bit alone. -/
theorem eq_bit_of_deviceFlagTable {k : Nat} {f : DeviceFlag} (h : deviceFlagTable[k]? = some f) : k = f.bit :=
  (List.getElem?_inj (List.getElem?_eq_some_iff.1 h).1 (by decide)).1 (h.trans (deviceFlagTable_bit f).symm)

/-- The setting of a channel flag sets its bit in its channel's flags (R169). -/
theorem State.setFlag_eq (s : State) (c : Ch) (f : ChannelFlag) :
    s.setFlag c f = { s with events := { s.events with
      flags := Vector.ofFn fun d : Ch =>
        if d = c then s.events.flags[d.val] ||| BitVec.twoPow 9 f.bit else s.events.flags[d.val] } } := by
  rw [State.setFlag, State.flagsOf, set_eq_ofFn s.events.flags c (· ||| BitVec.twoPow 9 f.bit)]

/-! ### The level of nIRQ (R170) -/

/-- Two words have a common bit exactly where their conjunction is not 0. -/
theorem and_bne_zero_iff {w : Nat} (x y : BitVec w) :
    ((x &&& y) != 0) = true ↔ ∃ k < w, x.getLsbD k = true ∧ y.getLsbD k = true := by
  rw [bne_iff_ne, Ne, BitVec.eq_of_getLsbD_eq_iff]
  simp

/-- nIRQ is asserted exactly while the pin disable is off and an enabled flag is set (R170). -/
theorem State.irqAsserted_iff (s : State) :
    s.irqAsserted = true ↔ s.events.pinDisable = false ∧
      ((∃ c : Ch, ∃ k < 9, (s.flagsOf c).getLsbD k = true ∧ (s.enablesOf c).getLsbD k = true) ∨
        ∃ k < 3, s.events.device.getLsbD k = true ∧ s.events.deviceEnables.getLsbD k = true) := by
  simp only [State.irqAsserted, Bool.and_eq_true, Bool.or_eq_true, Bool.not_eq_true', List.any_eq_true, mem_channels,
    true_and, and_bne_zero_iff]

/-! ### The bytes of READ EVENTS (R171) -/

theorem EventUnit.encode_eq_eventBytes (e : EventUnit) : e.encode = eventBytes e := by
  have hpin : byteOf (boolCode e.pinDisable) = if e.pinDisable then 1 else 0 := by cases e.pinDisable <;> rfl
  rw [EventUnit.encode, toList_eq_map_channels e.flags, toList_eq_map_channels e.enables, List.flatMap_map,
    List.flatMap_map, hpin]
  rfl

/-! ### The range checks (R172, R173) -/

/-- The check of the bitmaps goes channel by channel. -/
theorem mapsOk_eq_namesFlags (maps : ChannelMaps) (device : Byte) : mapsOk maps device = namesFlags maps device := by
  rw [mapsOk, toList_eq_map_channels, List.all_map]
  rfl

/-- The pin disable is one of two values (R164). -/
theorem pinDisable_lt_two_iff (pin : Byte) : pin.toNat < 2 ↔ (pin == 0 || pin == 1) = true := by
  revert pin; decide

/-! ### The commands taken (R152) -/

section Rules

variable {s : State} {p : Port} {tag : Byte}

/-- A command in EXECUTING that the controller does not serve is served and answered at once (R152). -/
theorem State.command_answered {cmd : Cmd} (serve : State → State × Reply) (hx : executing s p tag cmd)
    (hc : cmd.byController = false) :
    s.command p tag cmd serve = answered (serve s).1 p tag (serve s).2.status (serve s).2.data := by
  have htake : s.mayTake p cmd = true := by simp [State.mayTake, hc]
  rw [s.command_executing p tag cmd _ hx, s.take_executing p tag cmd _ hx htake, hc]
  rfl

/-- READ EVENTS taken reports the event unit and changes nothing (R171). -/
theorem exec_readEvents_executing (hx : executing s p tag .readEvents) :
    exec (.readEvents p tag) s = .next (answered s p tag .done (eventBytes s.events)) := by
  have hexec : exec (.readEvents p tag) s = .next (s.command p tag .readEvents State.serveReadEvents) := rfl
  rw [hexec, State.command_answered _ hx rfl, State.serveReadEvents, EventUnit.encode_eq_eventBytes]

/-- CLEAR EVENTS taken clears the flags named, or none where a bit names nothing (R172). -/
theorem exec_clearEvents_executing {maps : ChannelMaps} {device : Byte}
    (hx : executing s p tag (.clearEvents maps device)) :
    exec (.clearEvents p tag maps device) s = .next (
      if namesFlags maps device then
        answered { s with events := { s.events with
          flags := Vector.ofFn fun c : Ch => s.events.flags[c.val] &&& ~~~ (maps[c.val].setWidth 9)
          device := s.events.device &&& ~~~ device.setWidth 3 } } p tag .done []
      else answered s p tag .range []) := by
  have hexec : exec (.clearEvents p tag maps device) s =
      .next (s.command p tag (.clearEvents maps device) (State.serveClearEvents maps device)) := rfl
  have hflags : (zipEach s.events.flags maps fun f m => f &&& ~~~ m.setWidth 9) =
      Vector.ofFn fun c : Ch => s.events.flags[c.val] &&& ~~~ (maps[c.val].setWidth 9) :=
    Vector.ext fun i hi => by rw [zipEach_get, Vector.getElem_ofFn]
  rw [hexec, State.command_answered _ hx rfl, State.serveClearEvents, mapsOk_eq_namesFlags, hflags]
  split <;> rfl

/-- SET EVENT MASKS taken replaces every enable and the pin disable, or nothing where a parameter is out of range (R173). -/
theorem exec_setEventMasks_executing {maps : ChannelMaps} {device pin : Byte}
    (hx : executing s p tag (.setEventMasks maps device pin)) :
    exec (.setEventMasks p tag maps device pin) s = .next (
      if namesFlags maps device && (pin == 0 || pin == 1) then
        answered { s with events := { s.events with
          enables := Vector.ofFn fun c : Ch => maps[c.val].setWidth 9
          deviceEnables := device.setWidth 3
          pinDisable := pin == 1 } } p tag .done []
      else answered s p tag .range []) := by
  have hexec : exec (.setEventMasks p tag maps device pin) s =
      .next (s.command p tag (.setEventMasks maps device pin) (State.serveSetEventMasks maps device pin)) := rfl
  have henables : (mapEach maps fun m => m.setWidth 9) = Vector.ofFn fun c : Ch => maps[c.val].setWidth 9 :=
    Vector.ext fun i hi => by rw [mapEach_get, Vector.getElem_ofFn]
  rw [hexec, State.command_answered _ hx rfl, State.serveSetEventMasks, mapsOk_eq_namesFlags, henables]
  simp only [pinDisable_lt_two_iff, Bool.decide_eq_true]
  split <;> rfl

end Rules

/-- Settles O60: the flags by their table, nIRQ by its level, and each command by its row. -/
theorem eventCommandsAndTheInterruptLine : Obligations.EventCommandsAndTheInterruptLine := by
  refine ⟨fun f => ⟨f.bit, f.bit_lt, flagTable_bit f⟩, fun f => ⟨f.bit, f.bit_lt, deviceFlagTable_bit f⟩,
    fun s c k f hk => ?channelFlag, fun s k f hk => ?deviceFlag, fun _ _ => ⟨rfl, rfl⟩, fun p tag s =>
      ⟨exec_readEvents_executing, fun _ _ => exec_clearEvents_executing, fun _ _ _ => exec_setEventMasks_executing,
        s.irqAsserted_iff, fun _ _ _ => ⟨rfl, rfl, rfl⟩⟩⟩
  case channelFlag =>
    rw [eq_bit_of_flagTable hk]
    exact ⟨rfl, s.setFlag_eq c f⟩
  case deviceFlag =>
    rw [eq_bit_of_deviceFlagTable hk]
    exact ⟨rfl, rfl⟩

end Sys2Proof.Machine
end
